-- ==== Sys2Proof/Word.lean ====
section
/-! DEFINITION. The word types of the XLogger codec core (10_state.md R30, R108). -/

namespace Sys2Proof

/-- One byte of a stream, a window or a byte image. -/
abbrev Byte := BitVec 8

/-- One register of the register file (R30). -/
abbrev Word := BitVec 32

/-- A byte string, first byte first. -/
abbrev Bytes := List Byte

end Sys2Proof
end

