-- ==== Sys2Proof/Config.lean ====
section
/-! DEFINITION. What an implementation of the block fixes: the constants of 00_scope.md R9, the reference values of the
parameters of R10 (DESIGN CHOICE: log 6, unsafe), and the two free values (log 11, 13). The three functions of R11 are parameters of the
state, as tables (State.params; log 7, 8 and 9). -/

namespace Sys2Proof.Config

/-- WIN_CAP (R9). -/
def winCap : Nat := 65536
/-- MAX_DIST (R9). -/
def maxDist : Nat := 32768
/-- WSIZE, half the window (46_lz77_compressor.md). -/
def wSize : Nat := 32768
/-- MIN_MATCH (R9). -/
def minMatch : Nat := 3
/-- MAX_MATCH (R9). -/
def maxMatch : Nat := 258
/-- MIN_LOOKAHEAD (R9). -/
def minLookahead : Nat := 269
/-- MAX_CODE_LEN (R9). -/
def maxCodeLen : Nat := 15
/-- ADLER_MOD (R9). -/
def adlerMod : Nat := 65521
/-- EOCD_SCAN, the number of candidate positions (R9, 90_conflicts.md C4). -/
def eocdScan : Nat := 65557
/-- LIT_BUFSIZE, reference value (R10). DESIGN CHOICE (log 6). -/
def litBufsize : Nat := 16384
/-- BL_MAX_LEN, reference value (R10). DESIGN CHOICE (log 6). -/
def blMaxLen : Nat := 7
/-- PENDING_CAP, reference value (R10). DESIGN CHOICE (log 6). -/
def pendingCap : Nat := 65536
/-- DEFAULT_LEVEL, reference value (R10). DESIGN CHOICE (log 6). -/
def defaultLevel : Nat := 6

/-- The n-th free value: what ERRINFO holds where the spec states the report but not the value (log 13). It has no body,
so a statement about it holds whatever it is. -/
opaque freeInfo : Nat → Word

/-- Whether HENC_QUERY of an unbuilt tree is refused, as 60_exceptions.md R603 says, or reads, as 43_huffman_encoder.md R261 says: two
rules disagree and no ruling decides (log 11). It has no body, so a statement about it holds whichever it is. -/
opaque queryRefused : Bool

end Sys2Proof.Config
end

