-- ==== Sys2Proof/Syntax.lean ====
section
/-! DEFINITION. The instructions: one constructor for each row of spec/opcode_table.json. The first 61 are the host commands
of XCC-CMD v1 (30_encoding.md R143), whose operands are the fields N and IMM of the command word that the command uses (R141,
R142). The other 76 are the wire symbols of DEFLATE, zlib and ZIP (R155-R177), whose operands are the header bit, the literal
byte, the extra-bits number E (R164), or the value the symbol carries. -/

namespace Sys2Proof

/-- One row of the opcode table each. -/
inductive Instr where
  -- CMD 40_system_commands.md
  | nop
  | reset
  -- CMD 42_checksums.md
  | adlerInit
  | adlerUpdate
  | crcInit
  | crcUpdate
  -- CMD 43_huffman_encoder.md
  | hencReset (t : BitVec 8)
  | hencRecord (t : BitVec 8) (sym : BitVec 16)
  | hencBuildTree (t : BitVec 8)
  | hencBuildCodes (t : BitVec 8)
  | hencEncode (t : BitVec 8) (sym : BitVec 16)
  | hencEstimate (t : BitVec 8)
  | hencQuery (t : BitVec 8) (sym : BitVec 16)
  -- CMD 44_huffman_decoder.md
  | hdecBuild (t : BitVec 8)
  | hdecBuildFixed (t : BitVec 8)
  | hdecDecode (t : BitVec 8)
  -- CMD 45_bitstream.md
  | bwWriteBits (n : BitVec 8) (v : BitVec 16)
  | bwAlign
  | bwWriteBytes
  | bwWriteShortLe (v : BitVec 16)
  | bwWriteShortBe (v : BitVec 16)
  | bwWriteIntLe
  | bwWriteIntBe
  | bwFlush
  | bwReset
  | bwStatus
  | brPeek (n : BitVec 8)
  | brSkip (n : BitVec 8)
  | brRead16Le
  | brRead16Be
  | brRead32Le
  | brRead32Be
  | brAlign
  | brReset
  | brAvail
  -- CMD 46_lz77_compressor.md
  | lzReset
  | lzLoad
  | lzFind
  | lzAdvance
  | deflReset
  | deflInput
  | deflFinish
  | compress
  -- CMD 47_deflate_decompressor.md
  | inflReset
  | inflRun
  | decompress
  -- CMD 48_zip_container.md
  | zipNew
  | zipOpen
  | zipAddItem
  | zipAddFile
  | zipAddDir
  | zipUpdate
  | zipRemove
  | zipFind
  | zipItemData
  | zipItemInfo
  | zipItemName
  | zipSetItemLevel
  | zipSave
  | zipClose
  | zipInfo
  -- F-BHDR
  | blockStored (fin : Bool)
  | blockFixed (fin : Bool)
  | blockDynamic (fin : Bool)
  | blockReserved (fin : Bool)
  -- F-LITLEN
  | lit (b : Byte)
  | eob
  | len257
  | len258
  | len259
  | len260
  | len261
  | len262
  | len263
  | len264
  | len265 (e : Nat)
  | len266 (e : Nat)
  | len267 (e : Nat)
  | len268 (e : Nat)
  | len269 (e : Nat)
  | len270 (e : Nat)
  | len271 (e : Nat)
  | len272 (e : Nat)
  | len273 (e : Nat)
  | len274 (e : Nat)
  | len275 (e : Nat)
  | len276 (e : Nat)
  | len277 (e : Nat)
  | len278 (e : Nat)
  | len279 (e : Nat)
  | len280 (e : Nat)
  | len281 (e : Nat)
  | len282 (e : Nat)
  | len283 (e : Nat)
  | len284 (e : Nat)
  | len285
  | litlenReserved (odd : Bool)
  -- F-DIST
  | dist0
  | dist1
  | dist2
  | dist3
  | dist4 (e : Nat)
  | dist5 (e : Nat)
  | dist6 (e : Nat)
  | dist7 (e : Nat)
  | dist8 (e : Nat)
  | dist9 (e : Nat)
  | dist10 (e : Nat)
  | dist11 (e : Nat)
  | dist12 (e : Nat)
  | dist13 (e : Nat)
  | dist14 (e : Nat)
  | dist15 (e : Nat)
  | dist16 (e : Nat)
  | dist17 (e : Nat)
  | dist18 (e : Nat)
  | dist19 (e : Nat)
  | dist20 (e : Nat)
  | dist21 (e : Nat)
  | dist22 (e : Nat)
  | dist23 (e : Nat)
  | dist24 (e : Nat)
  | dist25 (e : Nat)
  | dist26 (e : Nat)
  | dist27 (e : Nat)
  | dist28 (e : Nat)
  | dist29 (e : Nat)
  | distReserved (odd : Bool)
  -- F-CLEN
  | clLen (v : Nat)
  | clRepeatPrev (e : Nat)
  | clZeroShort (e : Nat)
  | clZeroLong (e : Nat)
  -- F-ZHDR
  | zlibHeader (cinfo : BitVec 4) (flg : Byte)
  -- F-ZTRL
  | zlibTrailer (adler : Word)
  -- F-LFH
  | zipLocalHeader
  -- F-CDH
  | zipCentralRecord
  -- F-EOCD
  | zipEndRecord
deriving DecidableEq, Repr

end Sys2Proof
end

