-- ==== Sys2Proof/WellFormed.lean ====
section
/-! DEFINITION. Which instructions are well formed: the number E carried in a symbol's extra bits fits the width the spec
gives that symbol (30_encoding.md R161, R162, R163). Every other operand has a type of exactly its field's width. -/

namespace Sys2Proof

/-- E fits its `k` extra bits. -/
def fitsExtra (k e : Nat) : Bool := decide (e < 2 ^ k)

/-- Well-formedness of an instruction, one arm for each constructor. -/
def Instr.wellFormed : Instr → Bool
  | .nop => true
  | .reset => true
  | .adlerInit => true
  | .adlerUpdate => true
  | .crcInit => true
  | .crcUpdate => true
  | .hencReset _ => true
  | .hencRecord _ _ => true
  | .hencBuildTree _ => true
  | .hencBuildCodes _ => true
  | .hencEncode _ _ => true
  | .hencEstimate _ => true
  | .hencQuery _ _ => true
  | .hdecBuild _ => true
  | .hdecBuildFixed _ => true
  | .hdecDecode _ => true
  | .bwWriteBits _ _ => true
  | .bwAlign => true
  | .bwWriteBytes => true
  | .bwWriteShortLe _ => true
  | .bwWriteShortBe _ => true
  | .bwWriteIntLe => true
  | .bwWriteIntBe => true
  | .bwFlush => true
  | .bwReset => true
  | .bwStatus => true
  | .brPeek _ => true
  | .brSkip _ => true
  | .brRead16Le => true
  | .brRead16Be => true
  | .brRead32Le => true
  | .brRead32Be => true
  | .brAlign => true
  | .brReset => true
  | .brAvail => true
  | .lzReset => true
  | .lzLoad => true
  | .lzFind => true
  | .lzAdvance => true
  | .deflReset => true
  | .deflInput => true
  | .deflFinish => true
  | .compress => true
  | .inflReset => true
  | .inflRun => true
  | .decompress => true
  | .zipNew => true
  | .zipOpen => true
  | .zipAddItem => true
  | .zipAddFile => true
  | .zipAddDir => true
  | .zipUpdate => true
  | .zipRemove => true
  | .zipFind => true
  | .zipItemData => true
  | .zipItemInfo => true
  | .zipItemName => true
  | .zipSetItemLevel => true
  | .zipSave => true
  | .zipClose => true
  | .zipInfo => true
  | .blockStored _ => true
  | .blockFixed _ => true
  | .blockDynamic _ => true
  | .blockReserved _ => true
  | .lit _ => true
  | .eob => true
  | .len257 => true
  | .len258 => true
  | .len259 => true
  | .len260 => true
  | .len261 => true
  | .len262 => true
  | .len263 => true
  | .len264 => true
  | .len265 e => fitsExtra 1 e
  | .len266 e => fitsExtra 1 e
  | .len267 e => fitsExtra 1 e
  | .len268 e => fitsExtra 1 e
  | .len269 e => fitsExtra 2 e
  | .len270 e => fitsExtra 2 e
  | .len271 e => fitsExtra 2 e
  | .len272 e => fitsExtra 2 e
  | .len273 e => fitsExtra 3 e
  | .len274 e => fitsExtra 3 e
  | .len275 e => fitsExtra 3 e
  | .len276 e => fitsExtra 3 e
  | .len277 e => fitsExtra 4 e
  | .len278 e => fitsExtra 4 e
  | .len279 e => fitsExtra 4 e
  | .len280 e => fitsExtra 4 e
  | .len281 e => fitsExtra 5 e
  | .len282 e => fitsExtra 5 e
  | .len283 e => fitsExtra 5 e
  | .len284 e => fitsExtra 5 e
  | .len285 => true
  | .litlenReserved _ => true
  | .dist0 => true
  | .dist1 => true
  | .dist2 => true
  | .dist3 => true
  | .dist4 e => fitsExtra 1 e
  | .dist5 e => fitsExtra 1 e
  | .dist6 e => fitsExtra 2 e
  | .dist7 e => fitsExtra 2 e
  | .dist8 e => fitsExtra 3 e
  | .dist9 e => fitsExtra 3 e
  | .dist10 e => fitsExtra 4 e
  | .dist11 e => fitsExtra 4 e
  | .dist12 e => fitsExtra 5 e
  | .dist13 e => fitsExtra 5 e
  | .dist14 e => fitsExtra 6 e
  | .dist15 e => fitsExtra 6 e
  | .dist16 e => fitsExtra 7 e
  | .dist17 e => fitsExtra 7 e
  | .dist18 e => fitsExtra 8 e
  | .dist19 e => fitsExtra 8 e
  | .dist20 e => fitsExtra 9 e
  | .dist21 e => fitsExtra 9 e
  | .dist22 e => fitsExtra 10 e
  | .dist23 e => fitsExtra 10 e
  | .dist24 e => fitsExtra 11 e
  | .dist25 e => fitsExtra 11 e
  | .dist26 e => fitsExtra 12 e
  | .dist27 e => fitsExtra 12 e
  | .dist28 e => fitsExtra 13 e
  | .dist29 e => fitsExtra 13 e
  | .distReserved _ => true
  | .clLen v => fitsExtra 4 v
  | .clRepeatPrev e => fitsExtra 2 e
  | .clZeroShort e => fitsExtra 3 e
  | .clZeroLong e => fitsExtra 7 e
  | .zlibHeader _ _ => true
  | .zlibTrailer _ => true
  | .zipLocalHeader => true
  | .zipCentralRecord => true
  | .zipEndRecord => true

end Sys2Proof
end

