-- ==== Sys2Proof/Decode.lean ====
section
/-! DEFINITION. Decoding and encoding, written from 30_encoding.md. A format says how a word is read (R140): the command word
F-CMD, or one of the wire formats. The word of a wire symbol is the decoded symbol or field value of the opcode table, with the
extra-bits number E above the symbol (R164); how the symbol's Huffman code stands in the stream is the reader's business
(44_huffman_decoder.md R295). `decode` is total on every format and number and rejects by name. The encoder stands below it, and
below that the two definitions with which the host asks about one table word (log 18). -/

namespace Sys2Proof

/-- The formats of the opcode table (R140). -/
inductive Fmt where
  | cmd | bhdr | litlen | dist | clen | zhdr | ztrl | lfh | cdh | eocd
deriving DecidableEq, Repr

/-- Why a word is no instruction. -/
inductive DecodeError where
  /-- An OPC that R143 does not assign (R144). -/
  | unassignedOpcode (opc : Nat)
  /-- No symbol of the alphabet has this value. -/
  | noSuchSymbol (v : Nat)
  /-- The bits above the symbol and its extra bits are not zero. -/
  | bitsAbove
  /-- The zlib method nibble is not 8 (R150). -/
  | zlibMethod (cm : Nat)
  /-- The record does not begin with its signature (R175, R176, R177). -/
  | signature
deriving DecidableEq, Repr

/-- OPC, bits 7:0 of the command word (R141). -/
def cmdOpc (w : Word) : Nat := (w.extractLsb' 0 8).toNat
/-- N, bits 15:8 of the command word (R141). -/
def cmdN (w : Word) : BitVec 8 := w.extractLsb' 8 8
/-- IMM, bits 31:16 of the command word (R141). -/
def cmdImm (w : Word) : BitVec 16 := w.extractLsb' 16 16

/-- The command word (R141, R143, R144). -/
def decodeCmd (w : Word) : Except DecodeError Instr :=
  match cmdOpc w with
  | 0x00 => .ok .nop
  | 0x01 => .ok .reset
  | 0x10 => .ok .adlerInit
  | 0x11 => .ok .adlerUpdate
  | 0x20 => .ok .crcInit
  | 0x21 => .ok .crcUpdate
  | 0x30 => .ok (.hencReset (cmdN w))
  | 0x31 => .ok (.hencRecord (cmdN w) (cmdImm w))
  | 0x32 => .ok (.hencBuildTree (cmdN w))
  | 0x33 => .ok (.hencBuildCodes (cmdN w))
  | 0x34 => .ok (.hencEncode (cmdN w) (cmdImm w))
  | 0x35 => .ok (.hencEstimate (cmdN w))
  | 0x36 => .ok (.hencQuery (cmdN w) (cmdImm w))
  | 0x40 => .ok (.hdecBuild (cmdN w))
  | 0x41 => .ok (.hdecBuildFixed (cmdN w))
  | 0x42 => .ok (.hdecDecode (cmdN w))
  | 0x50 => .ok (.bwWriteBits (cmdN w) (cmdImm w))
  | 0x51 => .ok .bwAlign
  | 0x52 => .ok .bwWriteBytes
  | 0x53 => .ok (.bwWriteShortLe (cmdImm w))
  | 0x54 => .ok (.bwWriteShortBe (cmdImm w))
  | 0x55 => .ok .bwWriteIntLe
  | 0x56 => .ok .bwWriteIntBe
  | 0x57 => .ok .bwFlush
  | 0x58 => .ok .bwReset
  | 0x59 => .ok .bwStatus
  | 0x60 => .ok (.brPeek (cmdN w))
  | 0x61 => .ok (.brSkip (cmdN w))
  | 0x62 => .ok .brRead16Le
  | 0x63 => .ok .brRead16Be
  | 0x64 => .ok .brRead32Le
  | 0x65 => .ok .brRead32Be
  | 0x66 => .ok .brAlign
  | 0x67 => .ok .brReset
  | 0x68 => .ok .brAvail
  | 0x70 => .ok .lzReset
  | 0x71 => .ok .lzLoad
  | 0x72 => .ok .lzFind
  | 0x73 => .ok .lzAdvance
  | 0x80 => .ok .deflReset
  | 0x81 => .ok .deflInput
  | 0x82 => .ok .deflFinish
  | 0x83 => .ok .compress
  | 0x90 => .ok .inflReset
  | 0x91 => .ok .inflRun
  | 0x92 => .ok .decompress
  | 0xA0 => .ok .zipNew
  | 0xA1 => .ok .zipOpen
  | 0xA2 => .ok .zipAddItem
  | 0xA3 => .ok .zipAddFile
  | 0xA4 => .ok .zipAddDir
  | 0xA5 => .ok .zipUpdate
  | 0xA6 => .ok .zipRemove
  | 0xA7 => .ok .zipFind
  | 0xA8 => .ok .zipItemData
  | 0xA9 => .ok .zipItemInfo
  | 0xAA => .ok .zipItemName
  | 0xAB => .ok .zipSetItemLevel
  | 0xAC => .ok .zipSave
  | 0xAD => .ok .zipClose
  | 0xAE => .ok .zipInfo
  | opc => .error (.unassignedOpcode opc)

/-- A symbol with no extra bits: `e`, what stands above it, is 0. -/
def noExtra (e : Nat) (i : Instr) : Except DecodeError Instr :=
  if e = 0 then .ok i else .error .bitsAbove

/-- A symbol with `k` extra bits of value `e` (R164). -/
def withExtra (k e : Nat) (c : Nat → Instr) : Except DecodeError Instr :=
  if e < 2 ^ k then .ok (c e) else .error .bitsAbove

/-- A block header: bit 0 BFINAL, bits 2:1 BTYPE (R155). -/
def decodeBhdr (w : Nat) : Except DecodeError Instr :=
  let fin := w % 2 == 1
  match w / 2 with
  | 0 => .ok (.blockStored fin)
  | 1 => .ok (.blockFixed fin)
  | 2 => .ok (.blockDynamic fin)
  | 3 => .ok (.blockReserved fin)
  | _ => .error .bitsAbove

/-- A literal/length symbol in bits 8:0 and E above it (R160, R161). -/
def decodeLitlen (w : Nat) : Except DecodeError Instr :=
  let e := w / 512
  if w % 512 < 256 then noExtra e (.lit (BitVec.ofNat 8 w))
  else match w % 512 with
    | 256 => noExtra e .eob
    | 257 => noExtra e .len257
    | 258 => noExtra e .len258
    | 259 => noExtra e .len259
    | 260 => noExtra e .len260
    | 261 => noExtra e .len261
    | 262 => noExtra e .len262
    | 263 => noExtra e .len263
    | 264 => noExtra e .len264
    | 265 => withExtra 1 e .len265
    | 266 => withExtra 1 e .len266
    | 267 => withExtra 1 e .len267
    | 268 => withExtra 1 e .len268
    | 269 => withExtra 2 e .len269
    | 270 => withExtra 2 e .len270
    | 271 => withExtra 2 e .len271
    | 272 => withExtra 2 e .len272
    | 273 => withExtra 3 e .len273
    | 274 => withExtra 3 e .len274
    | 275 => withExtra 3 e .len275
    | 276 => withExtra 3 e .len276
    | 277 => withExtra 4 e .len277
    | 278 => withExtra 4 e .len278
    | 279 => withExtra 4 e .len279
    | 280 => withExtra 4 e .len280
    | 281 => withExtra 5 e .len281
    | 282 => withExtra 5 e .len282
    | 283 => withExtra 5 e .len283
    | 284 => withExtra 5 e .len284
    | 285 => noExtra e .len285
    | 286 => noExtra e (.litlenReserved false)
    | 287 => noExtra e (.litlenReserved true)
    | v => .error (.noSuchSymbol v)

/-- A distance symbol in bits 4:0 and E above it (R162). -/
def decodeDist (w : Nat) : Except DecodeError Instr :=
  let e := w / 32
  match w % 32 with
  | 0 => noExtra e .dist0
  | 1 => noExtra e .dist1
  | 2 => noExtra e .dist2
  | 3 => noExtra e .dist3
  | 4 => withExtra 1 e .dist4
  | 5 => withExtra 1 e .dist5
  | 6 => withExtra 2 e .dist6
  | 7 => withExtra 2 e .dist7
  | 8 => withExtra 3 e .dist8
  | 9 => withExtra 3 e .dist9
  | 10 => withExtra 4 e .dist10
  | 11 => withExtra 4 e .dist11
  | 12 => withExtra 5 e .dist12
  | 13 => withExtra 5 e .dist13
  | 14 => withExtra 6 e .dist14
  | 15 => withExtra 6 e .dist15
  | 16 => withExtra 7 e .dist16
  | 17 => withExtra 7 e .dist17
  | 18 => withExtra 8 e .dist18
  | 19 => withExtra 8 e .dist19
  | 20 => withExtra 9 e .dist20
  | 21 => withExtra 9 e .dist21
  | 22 => withExtra 10 e .dist22
  | 23 => withExtra 10 e .dist23
  | 24 => withExtra 11 e .dist24
  | 25 => withExtra 11 e .dist25
  | 26 => withExtra 12 e .dist26
  | 27 => withExtra 12 e .dist27
  | 28 => withExtra 13 e .dist28
  | 29 => withExtra 13 e .dist29
  | 30 => noExtra e (.distReserved false)
  | 31 => noExtra e (.distReserved true)
  | v => .error (.noSuchSymbol v)

/-- A code-length symbol in bits 4:0 and E above it (R163). -/
def decodeClen (w : Nat) : Except DecodeError Instr :=
  let e := w / 32
  if w % 32 < 16 then noExtra e (.clLen (w % 32))
  else match w % 32 with
    | 16 => withExtra 2 e .clRepeatPrev
    | 17 => withExtra 3 e .clZeroShort
    | 18 => withExtra 7 e .clZeroLong
    | v => .error (.noSuchSymbol v)

/-- The zlib header as CMF | FLG << 8: CM = CMF[3:0] is 8, CINFO = CMF[7:4] (R150). -/
def decodeZhdr (w : Nat) : Except DecodeError Instr :=
  if w % 16 = 8 then .ok (.zlibHeader (BitVec.ofNat 4 (w / 16)) (BitVec.ofNat 8 (w / 256)))
  else .error (.zlibMethod (w % 16))

/-- The four bytes of a word, the least significant first. -/
def wordBytes (w : Nat) : Nat × Nat × Nat × Nat := (w % 256, w / 256 % 256, w / 65536 % 256, w / 16777216 % 256)

/-- The zlib trailer, the first stream byte in bits 7:0; its value is big-endian (R152). -/
def decodeZtrl (w : Nat) : Except DecodeError Instr :=
  let b := wordBytes w
  .ok (.zlibTrailer (BitVec.ofNat 32 (b.1 * 16777216 + b.2.1 * 65536 + b.2.2.1 * 256 + b.2.2.2)))

/-- A ZIP record is told by its 32-bit little-endian signature (R175, R176, R177). -/
def decodeSignature (sig w : Nat) (i : Instr) : Except DecodeError Instr :=
  if w % 4294967296 = sig then .ok i else .error .signature

/-- Decoding of any number under any format: total, rejecting by name. -/
def decode (f : Fmt) (w : Nat) : Except DecodeError Instr :=
  match f with
  | .cmd => decodeCmd (BitVec.ofNat 32 w)
  | .bhdr => decodeBhdr w
  | .litlen => decodeLitlen w
  | .dist => decodeDist w
  | .clen => decodeClen w
  | .zhdr => decodeZhdr w
  | .ztrl => decodeZtrl w
  | .lfh => decodeSignature 0x04034B50 w .zipLocalHeader
  | .cdh => decodeSignature 0x02014B50 w .zipCentralRecord
  | .eocd => decodeSignature 0x06054B50 w .zipEndRecord

/-- The command word IMM << 16 | N << 8 | OPC (R180). -/
def cmdWord (opc : Nat) (n : BitVec 8) (imm : BitVec 16) : Fmt × Nat :=
  (.cmd, opc + 256 * n.toNat + 65536 * imm.toNat)

/-- The format and word of an instruction; fields a command does not use are 0 (R180). -/
def encode : Instr → Fmt × Nat
  | .nop => cmdWord 0x00 0 0
  | .reset => cmdWord 0x01 0 0
  | .adlerInit => cmdWord 0x10 0 0
  | .adlerUpdate => cmdWord 0x11 0 0
  | .crcInit => cmdWord 0x20 0 0
  | .crcUpdate => cmdWord 0x21 0 0
  | .hencReset t => cmdWord 0x30 t 0
  | .hencRecord t sym => cmdWord 0x31 t sym
  | .hencBuildTree t => cmdWord 0x32 t 0
  | .hencBuildCodes t => cmdWord 0x33 t 0
  | .hencEncode t sym => cmdWord 0x34 t sym
  | .hencEstimate t => cmdWord 0x35 t 0
  | .hencQuery t sym => cmdWord 0x36 t sym
  | .hdecBuild t => cmdWord 0x40 t 0
  | .hdecBuildFixed t => cmdWord 0x41 t 0
  | .hdecDecode t => cmdWord 0x42 t 0
  | .bwWriteBits n v => cmdWord 0x50 n v
  | .bwAlign => cmdWord 0x51 0 0
  | .bwWriteBytes => cmdWord 0x52 0 0
  | .bwWriteShortLe v => cmdWord 0x53 0 v
  | .bwWriteShortBe v => cmdWord 0x54 0 v
  | .bwWriteIntLe => cmdWord 0x55 0 0
  | .bwWriteIntBe => cmdWord 0x56 0 0
  | .bwFlush => cmdWord 0x57 0 0
  | .bwReset => cmdWord 0x58 0 0
  | .bwStatus => cmdWord 0x59 0 0
  | .brPeek n => cmdWord 0x60 n 0
  | .brSkip n => cmdWord 0x61 n 0
  | .brRead16Le => cmdWord 0x62 0 0
  | .brRead16Be => cmdWord 0x63 0 0
  | .brRead32Le => cmdWord 0x64 0 0
  | .brRead32Be => cmdWord 0x65 0 0
  | .brAlign => cmdWord 0x66 0 0
  | .brReset => cmdWord 0x67 0 0
  | .brAvail => cmdWord 0x68 0 0
  | .lzReset => cmdWord 0x70 0 0
  | .lzLoad => cmdWord 0x71 0 0
  | .lzFind => cmdWord 0x72 0 0
  | .lzAdvance => cmdWord 0x73 0 0
  | .deflReset => cmdWord 0x80 0 0
  | .deflInput => cmdWord 0x81 0 0
  | .deflFinish => cmdWord 0x82 0 0
  | .compress => cmdWord 0x83 0 0
  | .inflReset => cmdWord 0x90 0 0
  | .inflRun => cmdWord 0x91 0 0
  | .decompress => cmdWord 0x92 0 0
  | .zipNew => cmdWord 0xA0 0 0
  | .zipOpen => cmdWord 0xA1 0 0
  | .zipAddItem => cmdWord 0xA2 0 0
  | .zipAddFile => cmdWord 0xA3 0 0
  | .zipAddDir => cmdWord 0xA4 0 0
  | .zipUpdate => cmdWord 0xA5 0 0
  | .zipRemove => cmdWord 0xA6 0 0
  | .zipFind => cmdWord 0xA7 0 0
  | .zipItemData => cmdWord 0xA8 0 0
  | .zipItemInfo => cmdWord 0xA9 0 0
  | .zipItemName => cmdWord 0xAA 0 0
  | .zipSetItemLevel => cmdWord 0xAB 0 0
  | .zipSave => cmdWord 0xAC 0 0
  | .zipClose => cmdWord 0xAD 0 0
  | .zipInfo => cmdWord 0xAE 0 0
  | .blockStored fin => (.bhdr, 0 + fin.toNat)
  | .blockFixed fin => (.bhdr, 2 + fin.toNat)
  | .blockDynamic fin => (.bhdr, 4 + fin.toNat)
  | .blockReserved fin => (.bhdr, 6 + fin.toNat)
  | .lit b => (.litlen, b.toNat)
  | .eob => (.litlen, 256)
  | .len257 => (.litlen, 257)
  | .len258 => (.litlen, 258)
  | .len259 => (.litlen, 259)
  | .len260 => (.litlen, 260)
  | .len261 => (.litlen, 261)
  | .len262 => (.litlen, 262)
  | .len263 => (.litlen, 263)
  | .len264 => (.litlen, 264)
  | .len265 e => (.litlen, 265 + 512 * e)
  | .len266 e => (.litlen, 266 + 512 * e)
  | .len267 e => (.litlen, 267 + 512 * e)
  | .len268 e => (.litlen, 268 + 512 * e)
  | .len269 e => (.litlen, 269 + 512 * e)
  | .len270 e => (.litlen, 270 + 512 * e)
  | .len271 e => (.litlen, 271 + 512 * e)
  | .len272 e => (.litlen, 272 + 512 * e)
  | .len273 e => (.litlen, 273 + 512 * e)
  | .len274 e => (.litlen, 274 + 512 * e)
  | .len275 e => (.litlen, 275 + 512 * e)
  | .len276 e => (.litlen, 276 + 512 * e)
  | .len277 e => (.litlen, 277 + 512 * e)
  | .len278 e => (.litlen, 278 + 512 * e)
  | .len279 e => (.litlen, 279 + 512 * e)
  | .len280 e => (.litlen, 280 + 512 * e)
  | .len281 e => (.litlen, 281 + 512 * e)
  | .len282 e => (.litlen, 282 + 512 * e)
  | .len283 e => (.litlen, 283 + 512 * e)
  | .len284 e => (.litlen, 284 + 512 * e)
  | .len285 => (.litlen, 285)
  | .litlenReserved odd => (.litlen, 286 + odd.toNat)
  | .dist0 => (.dist, 0)
  | .dist1 => (.dist, 1)
  | .dist2 => (.dist, 2)
  | .dist3 => (.dist, 3)
  | .dist4 e => (.dist, 4 + 32 * e)
  | .dist5 e => (.dist, 5 + 32 * e)
  | .dist6 e => (.dist, 6 + 32 * e)
  | .dist7 e => (.dist, 7 + 32 * e)
  | .dist8 e => (.dist, 8 + 32 * e)
  | .dist9 e => (.dist, 9 + 32 * e)
  | .dist10 e => (.dist, 10 + 32 * e)
  | .dist11 e => (.dist, 11 + 32 * e)
  | .dist12 e => (.dist, 12 + 32 * e)
  | .dist13 e => (.dist, 13 + 32 * e)
  | .dist14 e => (.dist, 14 + 32 * e)
  | .dist15 e => (.dist, 15 + 32 * e)
  | .dist16 e => (.dist, 16 + 32 * e)
  | .dist17 e => (.dist, 17 + 32 * e)
  | .dist18 e => (.dist, 18 + 32 * e)
  | .dist19 e => (.dist, 19 + 32 * e)
  | .dist20 e => (.dist, 20 + 32 * e)
  | .dist21 e => (.dist, 21 + 32 * e)
  | .dist22 e => (.dist, 22 + 32 * e)
  | .dist23 e => (.dist, 23 + 32 * e)
  | .dist24 e => (.dist, 24 + 32 * e)
  | .dist25 e => (.dist, 25 + 32 * e)
  | .dist26 e => (.dist, 26 + 32 * e)
  | .dist27 e => (.dist, 27 + 32 * e)
  | .dist28 e => (.dist, 28 + 32 * e)
  | .dist29 e => (.dist, 29 + 32 * e)
  | .distReserved odd => (.dist, 30 + odd.toNat)
  | .clLen v => (.clen, v)
  | .clRepeatPrev e => (.clen, 16 + 32 * e)
  | .clZeroShort e => (.clen, 17 + 32 * e)
  | .clZeroLong e => (.clen, 18 + 32 * e)
  | .zlibHeader cinfo flg => (.zhdr, 8 + 16 * cinfo.toNat + 256 * flg.toNat)
  | .zlibTrailer adler => (.ztrl, adler.toNat / 16777216 + adler.toNat / 65536 % 256 * 256 + adler.toNat / 256 % 256 * 65536 + adler.toNat % 256 * 16777216)
  | .zipLocalHeader => (.lfh, 0x04034B50)
  | .zipCentralRecord => (.cdh, 0x02014B50)
  | .zipEndRecord => (.eocd, 0x06054B50)

/-- What the opcode table's rows of a format are in whole bytes, as the host numbers them: the OPC byte of a command; one byte
for F-BHDR, F-CLEN and F-ZHDR; up to four for F-DIST, whose rows the table's reader widened by the distances they name; more than
one for F-LITLEN; four for the trailer and the ZIP signatures. -/
def tableWidthOk (nbits : Nat) : Fmt → Bool
  | .cmd => nbits == 8 || nbits == 32
  | .bhdr | .clen => nbits == 8
  | .dist => nbits == 8 || nbits == 16 || nbits == 24 || nbits == 32
  | .zhdr => nbits == 8 || nbits == 16
  | .litlen => nbits == 16 || nbits == 24 || nbits == 32
  | .ztrl | .lfh | .cdh | .eocd => nbits == 32

/-- The formats in the order in which a table word is tried: a ZIP signature, a bare opcode byte, a literal/length symbol, any
command word, then the byte-wide wire formats in the table's order. -/
def tableFormats (nbits w : Nat) : List Fmt :=
  List.filter (tableWidthOk nbits)
    ([Fmt.lfh, Fmt.cdh, Fmt.eocd] ++ (if (nbits = 16 || nbits = 24) && 0 < w && w < 32 then [Fmt.dist] else [])
      ++ (if w < 256 then [Fmt.cmd] else []) ++ (if nbits = 32 && 0 < w && w < 32 then [Fmt.dist] else []) ++ [Fmt.litlen, Fmt.cmd, Fmt.bhdr, Fmt.dist, Fmt.clen, Fmt.zhdr, Fmt.ztrl])

/-- The rows of a byte-wide wire format whose `match` is this word: a block type with BFINAL = 0. -/
def isBareBlock (w : Nat) : Bool := w == 2 || w == 4 || w == 6

/-- The first format of the list whose decoder reads the word. A block header is taken here only where the word is exactly its row's
match, so that the other words of three bits stand for distance symbols. -/
def firstDecode (w : Nat) : List Fmt → Option Instr
  | [] => none
  | f :: fs =>
    if f = .bhdr && !isBareBlock w then firstDecode w fs
    else match decode f w with
      | .ok i => some i
      | .error _ => firstDecode w fs

/-- The instruction this decoder reads from a table word. The word alone does not tell its format: on the machine the place where it
is read does (CMD, or the decompressor's phase). Here the formats whose rows have `nbits` bits are tried in a fixed order (log 18,
DESIGN CHOICE), so a word that several rows share gives one of them. -/
def decodeTableWord (nbits w : Nat) : Option Instr := firstDecode w (tableFormats nbits w)

end Sys2Proof
end

