-- ==== Sys2Proof/Machine/State.lean ====
section
/-! DEFINITION. The state of the block as plain data: every element of 10_state.md and of 70_reset_and_hazards.md R700, and the
model's own fields, named as such. Counts, positions and lengths are natural numbers; the widths the spec gives them are
invariants (log 23). WIN, OWIN, HEAD and PREV are sorted lists of (index, value) in one canonical form: indices strictly rising
and no entry equal to 0, which is what an unlisted index reads as (log 3). -/

namespace Sys2Proof.Machine

/-- Faults: none. Every error of the spec is a command error, reported in ERRCODE, ERRINFO and STATUS, after which the block goes
on (60_exceptions.md R607, R610), so no step of this model faults. -/
inductive Fault where
deriving DecidableEq, Repr

/-- Refusals. -/
inductive Refusal where
  /-- Raised by an arm of `exec` whose instruction has no meaning yet; safe, because the machine stops. -/
  | notModelled (mnemonic : String)
deriving DecidableEq, Repr

/-- Four 32-bit registers: ARG0-ARG3, RES0-RES3, or the latched arguments (R33, R41). -/
structure Regs4 where
  r0 : Word
  r1 : Word
  r2 : Word
  r3 : Word
deriving DecidableEq, Repr

/-- What a running command waits for (00_scope.md R16, 30_encoding.md R146, 48_zip_container.md R520). -/
inductive Wait where
  /-- No hold. -/
  | none
  /-- IN holds at least k bytes, or IN_END = 1. -/
  | inBytes (k : Nat)
  /-- IN_END = 1. -/
  | inEnd
  /-- OUT has room for a byte. -/
  | outSpace
deriving DecidableEq, Repr

/-- DEFL_STATE (R50). -/
inductive DeflPhase where
  | idle | filling | searching | emitting | finished | error
deriving DecidableEq, Repr

/-- INFL_STATE (R70). -/
inductive InflPhase where
  | idle | header | blockHeader | storedCopy | huffmanDecode | checksum | done | error
deriving DecidableEq, Repr

/-- DEFL_STRATEGY (R59). -/
inductive Strategy where
  | stored | fast | lazy
deriving DecidableEq, Repr

/-- DEFL_PARAMS (R59). -/
structure DeflParams where
  level : Nat
  nowrap : Bool
  strategy : Strategy
  good : Nat
  maxLazy : Nat
  nice : Nat
  maxChain : Nat
deriving DecidableEq, Repr

/-- The window and the match finder (R51, R52, R54, R55). -/
structure Lz where
  win : List Host.Cell
  head : List (Nat × Nat)
  prev : List (Nat × Nat)
  strStart : Nat
  lookahead : Nat
  matchLen : Nat
  matchStart : Int
  matchAvail : Bool
deriving DecidableEq, Repr

/-- The compressor (R50, R53, R56-R59). `input` is the MODEL's own record of R370's terms: every byte taken into STAGE since
DEFL_RESET, in order (log 28). Only MATCH_FINDER's table is looked up by it. -/
structure Defl where
  phase : DeflPhase
  blockStart : Nat
  blockEnd : Nat
  pairs : List (Nat × Nat)
  stage : Bytes
  input : Bytes
  adler : Word
  outCount : Word
  fin : Bool
  params : DeflParams
deriving DecidableEq, Repr

/-- One tree of the Huffman encoder (R60). -/
structure HTree where
  freq : List Word
  len : List Nat
  code : List Nat
  blCount : List Nat
  tBuilt : Bool
  cBuilt : Bool
deriving DecidableEq, Repr

/-- One table of the Huffman decoder: DLEN, whose length is DN, and DBUILT (R80). -/
structure DTable where
  len : List Nat
  built : Bool
deriving DecidableEq, Repr

/-- The bit writer: BW_ACC, BW_N, PENDING (R85). -/
structure Bw where
  acc : Word
  n : Nat
  pending : Bytes
deriving DecidableEq, Repr

/-- The bit reader: BR_ACC, BR_N (R88). -/
structure Br where
  acc : Word
  n : Nat
deriving DecidableEq, Repr

/-- INFL_SRC (R76): IN, or the payload of the entry with an index, with the bytes not yet popped; `push` is the argument of
ItemData (48_zip_container.md R531). -/
inductive InflSrc where
  | input
  | entry (index : Nat) (push : Bool) (rest : Bytes)
deriving DecidableEq, Repr

/-- INFL_CONT (R77): the place inside the decompressor's pseudocode with what has been read there (log 15). -/
inductive InflCont where
  /-- At the start of the phase's next item. -/
  | none
  /-- CMF has been read (R454). -/
  | zhdr (cmf : Nat)
  /-- BFINAL has been read (R455). -/
  | btype
  /-- Some bytes of LEN and NLEN have been read (R456). -/
  | stored (bs : Bytes)
  /-- HLIT is read next (R458). -/
  | hlit
  /-- HDIST is read next. -/
  | hdist
  /-- HCLEN is read next. -/
  | hclen
  /-- The i-th code-length code length is read next. -/
  | cllen (i : Nat)
  /-- A code-length symbol is read next. -/
  | clens
  /-- The extra bits of code-length symbol k are read next. -/
  | clExtra (k : Nat)
  /-- The extra bits of length symbol s are read next (R460). -/
  | lenExtra (s : Nat)
  /-- The distance symbol of a match of length L is read next (R461). -/
  | dist (len : Nat)
  /-- The extra bits of distance symbol e are read next. -/
  | distExtra (len : Nat) (e : Nat)
  /-- `rem` bytes of a copy at distance `d` remain (R461). -/
  | copy (rem : Nat) (d : Nat)
  /-- Some bytes of the trailer have been read (R463). -/
  | trailer (bs : Bytes)
deriving DecidableEq, Repr

/-- The decompressor (R70-R77). -/
structure Infl where
  phase : InflPhase
  nowrap : Bool
  owin : List Host.Cell
  owpos : BitVec 16
  total : Nat
  final : Bool
  btype : BitVec 2
  storedRem : Nat
  hlit : Nat
  hdist : Nat
  hclen : Nat
  cllen : List Nat
  lenseq : List Nat
  adler : Word
  trailer : Word
  consumed : Word
  src : InflSrc
  cont : InflCont
deriving DecidableEq, Repr

/-- An entry of an archive (R92). -/
structure Entry where
  name : Bytes
  extAttr : Word
  method : Nat
  level : Nat
  payload : Bytes
  pcomp : Bool
  crc : Word
  csize : Word
  usize : Word
  loff : Word
deriving DecidableEq, Repr

/-- The place inside ZIP_OPEN's parse (48_zip_container.md R520-R523). -/
inductive ZipCont where
  /-- No parse is running. -/
  | idle
  /-- The end record is looked for next (R521). -/
  | scan
  /-- The end record stands at p. -/
  | eocd (p : Nat)
  /-- `left` directory records remain, the next at q. -/
  | dir (q : Nat) (left : Nat)
  /-- The record at q is read; its local header stands at lo, its payload has cs bytes, the next record stands at q2. -/
  | loc (q : Nat) (q2 : Nat) (left : Nat) (lo : Nat) (cs : Nat) (e : Entry)
deriving DecidableEq, Repr

/-- The ZIP container (R90, R91, R93). From `cont` on, the MODEL's own names for pseudocode variables of ZIP_OPEN and ZIP_SAVE
(log 28): the parse's place and list, whether a save runs, its copies still to write, its records, and the compressed bytes. -/
structure Zip where
  isOpen : Bool
  defLevel : Nat
  entries : List Entry
  source : Bytes
  sink : Bytes
  dbuf : Bytes
  cont : ZipCont
  list : List Entry
  saving : Bool
  work : List Entry
  recs : List (Entry × Nat)
  packed : Bytes
deriving DecidableEq, Repr

/-- Where Flush pushes PENDING: to OUT for a BW_* command, to OUT counted in DEFL_OUTCOUNT for the compressor (R410), or into the
compressed bytes of an entry being saved (R542). -/
inductive Dest where
  | host | stream | packed
deriving DecidableEq, Repr

/-- What a running command has still to do (log 15), the next first: the places of the pseudocode at which a command can hold,
and the pseudocode that follows them. -/
inductive Task where
  /-- PendPush these bytes (45_bitstream.md R331). -/
  | pend (d : Dest) (bs : Bytes)
  /-- Flush (R327). -/
  | flush (d : Dest)
  /-- OutPush these bytes (R16). -/
  | push (bs : Bytes)
  /-- Write RES registers, by number 0-3. -/
  | res (ws : List (Nat × Word))
  /-- InflRun (47_deflate_decompressor.md R453). -/
  | infl
  /-- The results of INFL_RUN (R451). -/
  | inflRes
  /-- The compressor's loop (46_lz77_compressor.md R388), from its slide test. -/
  | deflRun
  /-- The loop from Fill on. -/
  | deflGo
  /-- Slide(1) after its block flush (R378). -/
  | slide
  /-- FlushBlock (R400). -/
  | flushBlock (final : Bool)
  /-- The end of FlushBlock before its Flush (R409). -/
  | blockEnd
  /-- The end of FlushBlock after its Flush. -/
  | blockDone
  /-- Finish after its FlushBlock (R411). -/
  | deflTail
  /-- The end of Finish. -/
  | deflDone
  /-- RES0 of DEFL_INPUT (R413). -/
  | deflInputRes
  /-- RES0, RES1 of DEFL_FINISH and COMPRESS (R414, R415). -/
  | deflFinishRes
  /-- The input loop of COMPRESS (R415). -/
  | compress
  /-- The end of ItemData for ZIP_ITEM_DATA (48_zip_container.md R530, R531). -/
  | itemData (i : Nat)
  /-- The end of ItemData for ZIP_SET_ITEM_LEVEL (R510). -/
  | setLevel (i : Nat) (level : Nat)
  /-- The parse of ZIP_OPEN (R520). -/
  | zipParse
  /-- The next entry of ZIP_SAVE (R540). -/
  | saveItem
  /-- The end of ItemData inside ZIP_SAVE. -/
  | saveDecoded
  /-- WriteLocal after Deflate, the written method m (R542). -/
  | saveLocal (m : Nat)
  /-- SINK is discarded. -/
  | sinkClear
deriving DecidableEq, Repr

/-- A host action (60_exceptions.md R640, 20_memory.md R110, 70_reset_and_hazards.md R701): an access at a byte offset that moves
`bytes` bytes, or the hardware reset. -/
inductive HostAct where
  | write (off : BitVec 8) (bytes : Nat) (v : Word)
  | read (off : BitVec 8) (bytes : Nat)
  | hwReset
deriving DecidableEq, Repr

/-- A value of NAME_HOOK (00_scope.md R11): the bytes `raw` become `name`. -/
structure HookRow where
  raw : Bytes
  name : Bytes
deriving DecidableEq, Repr

/-- A value of HUFF_LENGTHS (R11): FREQ and M give `len`, or none where the assignment fails (43_huffman_encoder.md R263). -/
structure LenRow where
  freq : List Nat
  maxLen : Nat
  len : Option (List Nat)
deriving DecidableEq, Repr

/-- A choice of MATCH_FINDER (R11): with these DEFL_PARAMS, these input bytes before the cursor since DEFL_RESET and these from it
on, at most MIN_LOOKAHEAD of them, it takes a literal (none) or a match (L, D), and links into HEAD and PREV the covered positions
that `link` gives by their distance from the cursor, in its order (log 8). -/
structure FindRow where
  dp : DeflParams
  hist : Bytes
  ahead : Bytes
  take : Option (Nat × Nat)
  link : List Nat
deriving DecidableEq, Repr

/-- The parameters a model takes as arguments: IN_CAPACITY and OUT_CAPACITY (00_scope.md R10), none for unbounded, and the functions
NAME_HOOK, HUFF_LENGTHS and MATCH_FINDER (R11), each as the finite table of the values at which it differs from its default: the
identity, and the reference of R256-R259 and of R379-R393 (log 7, 8, 9). No step changes a parameter (log 5). -/
structure Params where
  inCap : Option Nat
  outCap : Option Nat
  hook : List HookRow
  lengths : List LenRow
  finder : List FindRow
deriving DecidableEq, Repr

/-- The whole state. -/
structure State where
  /-- CTRL[7:0] (R40). -/
  ctrl : BitVec 8
  /-- STATUS.BUSY (R42). -/
  busy : Bool
  /-- STATUS.ERR. -/
  err : Bool
  /-- STATUS.UERR. -/
  uerr : Bool
  /-- STATUS.DROP. -/
  drop : Bool
  /-- The hold behind STATUS.WAIT_IN and WAIT_OUT. -/
  wait : Wait
  /-- ERRCODE (R43). -/
  errCode : Word
  /-- ERRINFO (R44). -/
  errInfo : Word
  /-- IN, oldest byte first (R95). -/
  inq : Bytes
  /-- IN_END (R95). -/
  inEnd : Bool
  /-- OUT, oldest byte first (R95). -/
  outq : Bytes
  /-- ADLER (R47). -/
  adler : Word
  /-- CRC (R48). -/
  crc : Word
  /-- ARG0-ARG3 (R33). -/
  arg : Regs4
  /-- RES0-RES3 (R33). -/
  res : Regs4
  /-- The latched arguments a[0..3] (40_system_commands.md R202). -/
  lat : Regs4
  /-- The latched command word (R202). -/
  latCmd : Word
  lz : Lz
  defl : Defl
  t0 : HTree
  t1 : HTree
  t2 : HTree
  d0 : DTable
  d1 : DTable
  d2 : DTable
  bw : Bw
  br : Br
  infl : Infl
  zip : Zip
  /-- What the running command has still to do. -/
  tasks : List Task
  params : Params
  /-- The MODEL's own field: the host's next actions, oldest first (log 1). -/
  host : List HostAct
  /-- The MODEL's own field: what the last host read returned. -/
  rdata : Word
  /-- The MODEL's own field: how many free values were used (log 13). -/
  freeCtr : Nat
deriving DecidableEq, Repr

/-- Four zeros. -/
def Regs4.zero : Regs4 := ⟨0, 0, 0, 0⟩

/-- The parameters' defaults (R10, R11). -/
def Params.default : Params := ⟨none, none, [], [], []⟩

/-- DEFL_PARAMS at reset: those of level 6 (R59, 46_lz77_compressor.md R386). -/
def DeflParams.reset : DeflParams := ⟨6, false, .lazy, 8, 16, 128, 128⟩

/-- R700: WIN, STRSTART, LOOKAHEAD, HEAD, PREV, MATCH_*. -/
def Lz.reset : Lz := ⟨[], [], [], 1, 0, 2, 0, false⟩

/-- R700: DEFL_STATE, BLOCK_*, PAIRS, STAGE, DEFL_*. -/
def Defl.reset : Defl := ⟨.idle, 1, 1, [], [], [], 1, 0, false, DeflParams.reset⟩

/-- R700: a tree of n symbols. -/
def HTree.reset (n : Nat) : HTree :=
  ⟨List.replicate n 0, List.replicate n 0, List.replicate n 0, List.replicate 16 0, false, false⟩

/-- R700: a table. -/
def DTable.reset : DTable := ⟨[], false⟩

/-- R700: the bit writer. -/
def Bw.reset : Bw := ⟨0, 0, []⟩

/-- R700: the bit reader. -/
def Br.reset : Br := ⟨0, 0⟩

/-- R700: the decompressor. -/
def Infl.reset : Infl where
  phase := .idle
  nowrap := false
  owin := []
  owpos := 0
  total := 0
  final := false
  btype := 0
  storedRem := 0
  hlit := 0
  hdist := 0
  hclen := 0
  cllen := List.replicate 19 0
  lenseq := []
  adler := 1
  trailer := 0
  consumed := 0
  src := .input
  cont := .none

/-- R700: the ZIP container. -/
def Zip.reset : Zip := ⟨false, 6, [], [], [], [], .idle, [], false, [], [], []⟩

/-- R700, R701: the block right after hardware reset. The latched word and arguments, and the model's own fields, hold the
values log 4 and log 28 name. -/
def State.reset : State where
  ctrl := 0x8C
  busy := false
  err := false
  uerr := false
  drop := false
  wait := .none
  errCode := 0
  errInfo := 0
  inq := []
  inEnd := false
  outq := []
  adler := 1
  crc := 0
  arg := Regs4.zero
  res := Regs4.zero
  lat := Regs4.zero
  latCmd := 0
  lz := Lz.reset
  defl := Defl.reset
  t0 := HTree.reset 286
  t1 := HTree.reset 30
  t2 := HTree.reset 19
  d0 := DTable.reset
  d1 := DTable.reset
  d2 := DTable.reset
  bw := Bw.reset
  br := Br.reset
  infl := Infl.reset
  zip := Zip.reset
  tasks := []
  params := Params.default
  host := []
  rdata := 0
  freeCtr := 0

end Sys2Proof.Machine
end

