-- ==== Sys2Proof/Machine/Flags.lean ====
section
/-! DEFINITION. The status flags and the error codes: STATUS composed from the state (10_state.md R42), the phase encodings (R50,
R70), and ERRCODE of every error (60_exceptions.md R600-R605). -/

namespace Sys2Proof.Machine

/-- Bit `i` of a 32-bit word, from a Boolean. -/
def bitAt (b : Bool) (i : Nat) : Word := if b then (1 : Word) <<< i else 0

/-- The encoding of DEFL_STATE (R50). -/
def DeflPhase.code : DeflPhase → Nat
  | .idle => 0
  | .filling => 1
  | .searching => 2
  | .emitting => 3
  | .finished => 4
  | .error => 15

/-- The encoding of INFL_STATE (R70). -/
def InflPhase.code : InflPhase → Nat
  | .idle => 0
  | .header => 1
  | .blockHeader => 2
  | .storedCopy => 3
  | .huffmanDecode => 4
  | .checksum => 5
  | .done => 6
  | .error => 15

/-- DeflActive() (60_exceptions.md R616). -/
def DeflPhase.active : DeflPhase → Bool
  | .filling | .searching | .emitting => true
  | .idle | .finished | .error => false

/-- InflActive() (R616). -/
def InflPhase.active : InflPhase → Bool
  | .header | .blockHeader | .storedCopy | .huffmanDecode | .checksum => true
  | .idle | .done | .error => false

/-- STATUS.WAIT_IN (R42): a hold for IN bytes or for IN_END. -/
def Wait.isIn : Wait → Bool
  | .inBytes _ | .inEnd => true
  | .none | .outSpace => false

/-- STATUS.WAIT_OUT (R42). -/
def Wait.isOut : Wait → Bool
  | .outSpace => true
  | .none | .inBytes _ | .inEnd => false

/-- STATUS (R42). -/
def status (s : State) : Word :=
  bitAt s.busy 0 ||| bitAt s.err 1 ||| bitAt s.uerr 2 ||| bitAt s.wait.isIn 3 ||| bitAt s.wait.isOut 4
    ||| bitAt s.inEnd 5 ||| bitAt s.drop 6 ||| BitVec.ofNat 32 (s.defl.phase.code * 256)
    ||| BitVec.ofNat 32 (s.infl.phase.code * 4096) ||| bitAt s.zip.isOpen 16

/-- The errors, class by class (R601-R605). -/
inductive Err where
  | zlibFcheck | zlibWindow | btypeReserved | storedLenMismatch | truncated | clenRepeatNoPrev | clenOverrun
  | huffOversubscribed | huffInvalidCode | litlenReserved | distReserved | distTooFar | hlitRange
  | zipEocdNotFound | zipBadCdSig | zipBadLocalSig | zipRange | zipDupName
  | adlerMismatch | crcMismatch
  | zlibMethod | zlibFdict | zipMethod | zipEncrypted | zip64Needed | zipMultidisk
  | illegalCmd | unitBusy | badArg | dupName | illegalName | archiveClosed | noSuchItem | streamFinished
  | notBuilt | shortInput | notReady
  | heapInvariant | rawWriteUnaligned | rawReadUnaligned
deriving DecidableEq, Repr

/-- CODE, ERRCODE[7:0] (R601-R605). -/
def Err.code : Err → Nat
  | .zlibFcheck => 0x01
  | .zlibWindow => 0x02
  | .btypeReserved => 0x03
  | .storedLenMismatch => 0x04
  | .truncated => 0x05
  | .clenRepeatNoPrev => 0x06
  | .clenOverrun => 0x07
  | .huffOversubscribed => 0x08
  | .huffInvalidCode => 0x09
  | .litlenReserved => 0x0A
  | .distReserved => 0x0B
  | .distTooFar => 0x0C
  | .hlitRange => 0x0D
  | .zipEocdNotFound => 0x0E
  | .zipBadCdSig => 0x0F
  | .zipBadLocalSig => 0x10
  | .zipRange => 0x11
  | .zipDupName => 0x12
  | .adlerMismatch => 0x20
  | .crcMismatch => 0x21
  | .zlibMethod => 0x30
  | .zlibFdict => 0x31
  | .zipMethod => 0x32
  | .zipEncrypted => 0x33
  | .zip64Needed => 0x34
  | .zipMultidisk => 0x35
  | .illegalCmd => 0x40
  | .unitBusy => 0x42
  | .badArg => 0x43
  | .dupName => 0x44
  | .illegalName => 0x45
  | .archiveClosed => 0x46
  | .noSuchItem => 0x47
  | .streamFinished => 0x48
  | .notBuilt => 0x49
  | .shortInput => 0x4A
  | .notReady => 0x4B
  | .heapInvariant => 0x50
  | .rawWriteUnaligned => 0x51
  | .rawReadUnaligned => 0x52

/-- CLASS, ERRCODE[10:8] (R600): 1 Format, 2 Integrity, 3 Unsupported, 4 Usage, 5 Internal. The tables R601-R605 give each class
its own high digit of CODE. -/
def Err.cls (e : Err) : Nat :=
  if e.code < 0x20 then 1 else if e.code < 0x30 then 2 else if e.code < 0x40 then 3 else if e.code < 0x50 then 4 else 5

/-- ERRCODE of an error (R43, R607). -/
def Err.word (e : Err) : Word := BitVec.ofNat 32 (e.cls * 256 + e.code)

/-- A UsageError sets UERR; every other class sets ERR (R600, R607). -/
def Err.isUsage (e : Err) : Bool := e.cls == 4

end Sys2Proof.Machine
end

