-- ==== Sys2Proof/Machine/Ops.lean ====
section
/-! DEFINITION. The named operations over the state that every unit shares: sparse arrays, the two FIFOs, the RES registers,
holding, raising an error and completing (10_state.md, 00_scope.md R16-R17, 60_exceptions.md R607-R610, 40_system_commands.md
R202). A raise is the block's only exception; it has no handler and no return instruction (R611), so the operation beside it is
`complete`, the frame's last line. -/

namespace Sys2Proof.Machine

/-! ## Sparse arrays -/

/-- Read index k of a sparse array whose unlisted elements are d. -/
def cellGet {α : Type} (d : α) : List (Nat × α) → Nat → α
  | [], _ => d
  | c :: m, k => if c.1 = k then c.2 else cellGet d m k

/-- Write v at index k, keeping the canonical form: sorted, and no entry equal to d. -/
def cellSet {α : Type} [DecidableEq α] (d : α) : List (Nat × α) → Nat → α → List (Nat × α)
  | [], k, v => if v = d then [] else [(k, v)]
  | c :: m, k, v =>
    if c.1 = k then (if v = d then m else (k, v) :: m)
    else if k < c.1 then (if v = d then c :: m else (k, v) :: c :: m)
    else c :: cellSet d m k v

/-- The canonical form with every index at least lo: indices strictly rising and no entry equal to d. -/
def cellsFrom {α : Type} [DecidableEq α] (d : α) : Nat → List (Nat × α) → Bool
  | _, [] => true
  | lo, c :: m => decide (lo ≤ c.1) && decide (c.2 ≠ d) && cellsFrom d (c.1 + 1) m

/-- Write a byte string at consecutive indices from k on. -/
def cellPut (m : List Host.Cell) (k : Nat) : Bytes → List Host.Cell
  | [] => m
  | b :: bs => cellPut (cellSet 0 m k b) (k + 1) bs

/-- The n elements from index k on. -/
def cellTake (m : List Host.Cell) (k : Nat) : Nat → Bytes
  | 0 => []
  | n + 1 => cellGet 0 m k :: cellTake m (k + 1) n

/-- The canonical form of a byte memory: WIN and OWIN. -/
def Memory.wf (m : List Host.Cell) : Bool := cellsFrom 0 0 m

/-- The canonical form of HEAD and PREV. -/
def Chain.wf (m : List (Nat × Nat)) : Bool := cellsFrom 0 0 m

/-! ## Numbers and byte strings -/

/-- A number as a register value, mod 2^32 (log 27). -/
def toWord (n : Nat) : Word := BitVec.ofNat 32 n

/-- `min(n, 2^32 - 1)`, the level registers' form (R45, R330, R350). -/
def levelWord (n : Nat) : Word := BitVec.ofNat 32 (min n 4294967295)

/-- LE_2 and LE_4 of a number (R15). -/
def le16 (v : Nat) : Bytes := [BitVec.ofNat 8 v, BitVec.ofNat 8 (v / 256)]
def le32 (v : Nat) : Bytes :=
  [BitVec.ofNat 8 v, BitVec.ofNat 8 (v / 256), BitVec.ofNat 8 (v / 65536), BitVec.ofNat 8 (v / 16777216)]
/-- BE_2 and BE_4 of a number (R15). -/
def be16 (v : Nat) : Bytes := [BitVec.ofNat 8 (v / 256), BitVec.ofNat 8 v]
def be32 (v : Nat) : Bytes :=
  [BitVec.ofNat 8 (v / 16777216), BitVec.ofNat 8 (v / 65536), BitVec.ofNat 8 (v / 256), BitVec.ofNat 8 v]

/-- The value of a byte string, least significant byte first. -/
def leValue : Bytes → Nat
  | [] => 0
  | b :: bs => b.toNat + 256 * leValue bs

/-- The value of a byte string, most significant byte first. -/
def beValue (bs : Bytes) : Nat := leValue bs.reverse

/-- Replace element i of a list; beyond its end nothing changes. -/
def setAt {α : Type} : List α → Nat → α → List α
  | [], _, _ => []
  | _ :: xs, 0, v => v :: xs
  | x :: xs, i + 1, v => x :: setAt xs i v

/-! ## Registers -/

/-- Register i of four (R14, R33). -/
def Regs4.get (r : Regs4) : Nat → Word
  | 0 => r.r0
  | 1 => r.r1
  | 2 => r.r2
  | _ => r.r3

/-- Register i of four written. -/
def Regs4.set (r : Regs4) (i : Nat) (v : Word) : Regs4 :=
  match i with
  | 0 => { r with r0 := v }
  | 1 => { r with r1 := v }
  | 2 => { r with r2 := v }
  | _ => { r with r3 := v }

/-- Write RES registers, the writes `x[4+i] <- v` of a completing command (R14, R714). -/
def setRes (ws : List (Nat × Word)) (s : State) : State :=
  { s with res := ws.foldl (fun r w => r.set w.1 w.2) s.res }

/-- The latched argument `x[i]` as a number (R202). -/
def argNat (s : State) (i : Nat) : Nat := (s.lat.get i).toNat

/-! ## Outcomes of an operation -/

/-- How an operation of the engine ends: it goes on, it holds (R16), or it raises (R17). -/
inductive Res where
  | ok (s : State)
  | hold (w : Wait) (s : State)
  | raise (e : Err) (info : Word) (s : State)

/-- Go on with the next operation. -/
def Res.andThen (r : Res) (f : State → Res) : Res :=
  match r with
  | .ok s => f s
  | .hold w s => .hold w s
  | .raise e info s => .raise e info s

/-- The frame's last line (R202): BUSY, WAIT_IN and WAIT_OUT are cleared. -/
def complete (s : State) : State := { s with busy := false, wait := .none, tasks := [] }

/-- A raise (R607): ERRCODE and ERRINFO are written, UERR or ERR is set, and the command ends. RES keeps its values (R610). -/
def raiseErr (e : Err) (info : Word) (s : State) : State :=
  { complete s with
    errCode := e.word
    errInfo := info
    err := s.err || !e.isUsage
    uerr := s.uerr || e.isUsage }

/-- A command begins with nothing left over (R202). -/
def begun (s : State) : State := { s with tasks := [] }

/-- How the engine leaves a command that is one piece of work: complete, holding, or reported (R202, R607). -/
def settle : Res → State
  | .ok s => complete s
  | .hold w s => { s with wait := w }
  | .raise e info s => raiseErr e info s

/-- The outcome of a command that is one piece of work (R202). -/
def finish (f : State → Res) (s : State) : Host.Outcome State Fault Refusal := .next (settle (f (begun s)))

/-- A UsageError or InternalError of a standalone command: ERRINFO is its OPC (R606), and no phase changes (R610). -/
def refuse (e : Err) (opc : Nat) (s : State) : Res := .raise e (toWord opc) s

/-- Both engines idle and the transient images of a ZIP command dropped: what a raise in a ZIP command leaves (R610, R93). -/
def zipIdle (s : State) : State :=
  { s with
    defl := { s.defl with phase := .idle }
    infl := { s.infl with phase := .idle, cont := .none, src := .input }
    zip := { s.zip with
      source := []
      sink := []
      dbuf := []
      cont := .idle
      list := []
      saving := false
      work := []
      recs := []
      packed := [] } }

/-! ## FIFOs -/

/-- n exceeds IN_CAPACITY (R146). -/
def overInCap (s : State) (n : Nat) : Bool :=
  match s.params.inCap with
  | none => false
  | some c => decide (c < n)

/-- IN is full (R95). -/
def inFull (s : State) : Bool := overInCap s (s.inq.length + 1)

/-- How many of n bytes OUT has room for (R16). -/
def outRoom (s : State) (n : Nat) : Nat :=
  match s.params.outCap with
  | none => n
  | some c => min n (c - s.outq.length)

/-- OUT is full (R16). -/
def outFull (s : State) : Bool := outRoom s 1 == 0

/-- OutPush of each byte in turn (R16): as many as OUT has room for, then a hold that keeps the rest. -/
def outPush (bs : Bytes) (s : State) : Res :=
  let k := outRoom s bs.length
  let s1 := { s with outq := s.outq ++ bs.take k }
  if k < bs.length then .hold .outSpace { s1 with tasks := .push (bs.drop k) :: s1.tasks } else .ok s1

/-- TakeCounted(k) (R146): hold until k bytes or IN_END; SHORT_INPUT consumes nothing; k = 0 does not wait. A command holds here
before it has changed anything, and begins again when the hold ends. -/
def takeCounted (opc k : Nat) (s : State) (f : Bytes → State → Res) : Res :=
  if k ≤ s.inq.length then f (s.inq.take k) { s with inq := s.inq.drop k }
  else if s.inEnd then refuse .shortInput opc s
  else .hold (.inBytes k) s

/-- A hold is over (R16, R146, R520). -/
def waitOver (s : State) : Bool :=
  match s.wait with
  | .none => true
  | .inBytes k => decide (k ≤ s.inq.length) || s.inEnd
  | .inEnd => s.inEnd
  | .outSpace => !outFull s

/-! ## Guards -/

/-- `if b then raise e(opc)`, else go on. -/
def guardErr (b : Bool) (e : Err) (opc : Nat) (s : State) (r : Res) : Res := if b then refuse e opc s else r

end Sys2Proof.Machine
end

