-- ==== Sys2Proof/Machine/Operands.lean ====
section
/-! DEFINITION. The operand forms: the fields of CTRL (10_state.md R40), the tree and table identifiers with their sizes
(43_huffman_encoder.md, 44_huffman_decoder.md), and the guards the units' commands begin with. -/

namespace Sys2Proof.Machine

/-- CTRL.NOWRAP (R40). -/
def ctrlNowrap (s : State) : Bool := s.ctrl.getLsbD 0
/-- CTRL.LEVEL (R40). -/
def ctrlLevel (s : State) : Nat := (s.ctrl.extractLsb' 1 4).toNat
/-- CTRL.STRAT (R40). -/
def ctrlStrat (s : State) : Nat := (s.ctrl.extractLsb' 5 2).toNat
/-- CTRL.CRC_CHECK (R40). -/
def ctrlCrcCheck (s : State) : Bool := s.ctrl.getLsbD 7

/-- Which of three trees or tables. -/
inductive Sel where
  | zero | one | two
deriving DecidableEq, Repr

/-- N as a tree or table id (R145): 0, 1, 2, nothing else. -/
def selOf (n : BitVec 8) : Option Sel :=
  match n.toNat with
  | 0 => some .zero
  | 1 => some .one
  | 2 => some .two
  | _ => none

/-- NSYM(t) (43_huffman_encoder.md). -/
def Sel.nsym : Sel → Nat
  | .zero => 286
  | .one => 30
  | .two => 19

/-- MAXLEN(t). -/
def Sel.maxLen : Sel → Nat
  | .zero => Config.maxCodeLen
  | .one => Config.maxCodeLen
  | .two => Config.blMaxLen

/-- SIZE(t) (44_huffman_decoder.md). -/
def Sel.size : Sel → Nat
  | .zero => 288
  | .one => 32
  | .two => 19

/-- Tree t. -/
def getTree (s : State) : Sel → HTree
  | .zero => s.t0
  | .one => s.t1
  | .two => s.t2

/-- Tree t replaced. -/
def setTree (s : State) (t : Sel) (h : HTree) : State :=
  match t with
  | .zero => { s with t0 := h }
  | .one => { s with t1 := h }
  | .two => { s with t2 := h }

/-- Table t. -/
def getTable (s : State) : Sel → DTable
  | .zero => s.d0
  | .one => s.d1
  | .two => s.d2

/-- Table t replaced. -/
def setTable (s : State) (t : Sel) (d : DTable) : State :=
  match t with
  | .zero => { s with d0 := d }
  | .one => { s with d1 := d }
  | .two => { s with d2 := d }

/-- Prologue of the HENC_* commands (43_huffman_encoder.md): UNIT_BUSY, then BAD_ARG. -/
def hencPrologue (opc : Nat) (t : BitVec 8) (s : State) (f : Sel → Res) : Res :=
  guardErr s.defl.phase.active .unitBusy opc s <|
    match selOf t with
    | none => refuse .badArg opc s
    | some t => f t

/-- Prologue of the HDEC_* commands (44_huffman_decoder.md). -/
def hdecPrologue (opc : Nat) (t : BitVec 8) (s : State) (f : Sel → Res) : Res :=
  guardErr s.infl.phase.active .unitBusy opc s <|
    match selOf t with
    | none => refuse .badArg opc s
    | some t => f t

/-- PrologueW and PrologueLZ (45_bitstream.md, 46_lz77_compressor.md). -/
def deflFree (opc : Nat) (s : State) (r : Res) : Res := guardErr s.defl.phase.active .unitBusy opc s r

/-- PrologueR, and NoInfl() of 48_zip_container.md. -/
def inflFree (opc : Nat) (s : State) (r : Res) : Res := guardErr s.infl.phase.active .unitBusy opc s r

/-- Open() (48_zip_container.md). -/
def zipOpened (opc : Nat) (s : State) (r : Res) : Res := guardErr (!s.zip.isOpen) .archiveClosed opc s r

/-- Item(i) (48_zip_container.md). -/
def zipItem (opc i : Nat) (s : State) (f : Entry → Res) : Res :=
  match s.zip.entries[i]? with
  | none => refuse .noSuchItem opc s
  | some e => f e

end Sys2Proof.Machine
end

