-- ==== Sys2Proof/Machine/Bits.lean ====
section
/-! DEFINITION. The bit utilities (41_bit_utilities.md): bit reversal, CL_ORDER, the fixed tables, canonical codes and the Kraft
sum. -/

namespace Sys2Proof.Machine

/-- bitrev_n(c) (R210): bit i of the result is bit n - 1 - i of c. -/
def bitrev : Nat → Nat → Nat
  | 0, _ => 0
  | n + 1, c => c % 2 * 2 ^ n + bitrev n (c / 2)

/-- CL_ORDER (R211). -/
def clOrder : List Nat := [16, 17, 18, 0, 8, 7, 9, 6, 10, 5, 11, 4, 12, 3, 13, 2, 14, 1, 15]

/-- FIXED_LL (R212). -/
def fixedLL : List Nat :=
  List.replicate 144 8 ++ List.replicate 112 9 ++ List.replicate 24 7 ++ List.replicate 8 8

/-- FIXED_D (R213). -/
def fixedD : List Nat := List.replicate 32 5

/-- How many symbols have length l (R214, R253). -/
def countLen (len : List Nat) (l : Nat) : Nat := len.count l

/-- Kraft(LEN) in units of 2^-15 (R215). -/
def kraft : List Nat → Nat
  | [] => 0
  | l :: ls => (if l = 0 then 0 else 2 ^ (15 - l)) + kraft ls

/-- NEXT[l] of R214 for l from the given length up, `k` of them; `code` and `prev` are code and BLC[l-1] on entry. -/
def nextCodes (len : List Nat) : Nat → Nat → Nat → Nat → List Nat
  | 0, _, _, _ => []
  | k + 1, l, code, prev =>
    let c := (code + prev) * 2
    c :: nextCodes len k (l + 1) c (countLen len l)

/-- The second loop of R214: `next` holds NEXT[1], NEXT[2], … -/
def assignCodes (next : List Nat) : List Nat → List Nat
  | [] => []
  | 0 :: ls => 0 :: assignCodes next ls
  | (l + 1) :: ls =>
    let c := next.getD l 0
    c :: assignCodes (setAt next l (c + 1)) ls

/-- Canon(LEN) (R214). -/
def canon (len : List Nat) : List Nat := assignCodes (nextCodes len 15 1 0 0) len

/-- Pointwise bit reversal of codes by their lengths. -/
def revAll : List Nat → List Nat → List Nat
  | l :: ls, c :: cs => bitrev l c :: revAll ls cs
  | _, _ => []

/-- RevCodes(LEN) (43_huffman_encoder.md R262). -/
def revCodes (len : List Nat) : List Nat := revAll len (canon len)

end Sys2Proof.Machine
end

