-- ==== Sys2Proof/Machine/Tables.lean ====
section
/-! DEFINITION. The base and extra-bit tables of lengths and distances (30_encoding.md R161-R166) and the level table
(46_lz77_compressor.md R386). -/

namespace Sys2Proof.Machine

/-- LEN_BASE (R161). -/
def lenBase : List Nat :=
  [3, 4, 5, 6, 7, 8, 9, 10, 11, 13, 15, 17, 19, 23, 27, 31, 35, 43, 51, 59, 67, 83, 99, 115, 131, 163, 195, 227, 258]

/-- LEN_EXTRA (R161). -/
def lenExtra : List Nat :=
  [0, 0, 0, 0, 0, 0, 0, 0, 1, 1, 1, 1, 2, 2, 2, 2, 3, 3, 3, 3, 4, 4, 4, 4, 5, 5, 5, 5, 0]

/-- DIST_BASE (R162). -/
def distBase : List Nat :=
  [1, 2, 3, 4, 5, 7, 9, 13, 17, 25, 33, 49, 65, 97, 129, 193, 257, 385, 513, 769, 1025, 1537, 2049, 3073, 4097, 6145,
    8193, 12289, 16385, 24577]

/-- DIST_EXTRA (R162). -/
def distExtra : List Nat :=
  [0, 0, 0, 0, 1, 1, 2, 2, 3, 3, 4, 4, 5, 5, 6, 6, 7, 7, 8, 8, 9, 9, 10, 10, 11, 11, 12, 12, 13, 13]

/-- The extra-bit width of code-length symbol k (R163). -/
def clExtraBits : Nat → Nat
  | 16 => 2
  | 17 => 3
  | 18 => 7
  | _ => 0

/-- The largest index whose base is at most v, in a rising list of bases. -/
def lastBase (v : Nat) (bases : List Nat) : Nat := (bases.filter (fun b => decide (b ≤ v))).length - 1

/-- LenCode (R165, R400): 28, symbol 285, for 258. -/
def lenCode (l : Nat) : Nat := if l = 258 then 28 else lastBase l (lenBase.take 28)

/-- DistCode (R166, R400). -/
def distCode (d : Nat) : Nat := lastBase d distBase

/-- A row of LEVEL_TABLE (R386): GOOD, MAX_LAZY, NICE, MAX_CHAIN, strategy. -/
structure LevelRow where
  good : Nat
  maxLazy : Nat
  nice : Nat
  maxChain : Nat
  strategy : Strategy
deriving DecidableEq, Repr

/-- LEVEL_TABLE (R386). Levels above 9 never reach it (R387, R510). -/
def levelRow : Nat → LevelRow
  | 0 => ⟨0, 0, 0, 0, .stored⟩
  | 1 => ⟨4, 4, 8, 4, .fast⟩
  | 2 => ⟨4, 5, 16, 8, .fast⟩
  | 3 => ⟨4, 6, 32, 32, .fast⟩
  | 4 => ⟨4, 4, 16, 16, .lazy⟩
  | 5 => ⟨8, 16, 32, 32, .lazy⟩
  | 6 => ⟨8, 16, 128, 128, .lazy⟩
  | 7 => ⟨8, 32, 128, 256, .lazy⟩
  | 8 => ⟨32, 128, 258, 1024, .lazy⟩
  | _ => ⟨32, 258, 258, 4096, .lazy⟩

/-- DEFL_PARAMS for a level, a strategy selector and the wrapper bit (R387). -/
def mkParams (level strat : Nat) (nowrap : Bool) : DeflParams :=
  let r := levelRow level
  { level := level
    nowrap := nowrap
    strategy := if level = 0 then .stored else if strat = 1 then .fast else if strat = 2 then .lazy else r.strategy
    good := r.good
    maxLazy := r.maxLazy
    nice := r.nice
    maxChain := r.maxChain }

end Sys2Proof.Machine
end

