-- ==== Sys2Proof/Machine/HuffTree.lean ====
section
/-! DEFINITION. HUFF_LENGTHS: the reference length assignment (43_huffman_encoder.md R256-R259, R263), and the parameter of
00_scope.md R11 whose default it is (log 7). -/

namespace Sys2Proof.Machine

/-- A node of the tree of R256. -/
inductive HNode where
  | leaf (s : Nat)
  | node (a : HNode) (b : HNode)
deriving Repr

/-- A heap entry: weight, seq, node (R256). -/
structure HItem where
  weight : Nat
  seq : Nat
  node : HNode
deriving Repr

/-- Lexicographic comparison of the keys (weight, seq) (R256). -/
def HItem.less (a b : HItem) : Bool := decide (a.weight < b.weight) || (a.weight == b.weight && decide (a.seq < b.seq))

/-- Push on the heap, held as a list sorted by key. -/
def heapPush (x : HItem) : List HItem → List HItem
  | [] => [x]
  | y :: ys => if x.less y then x :: y :: ys else y :: heapPush x ys

/-- U (R250, R256): the used symbols with their frequencies, in ascending symbol order, numbered from i. -/
def usedFrom : Nat → List Nat → List (Nat × Nat)
  | _, [] => []
  | i, f :: fs => if 0 < f then (i, f) :: usedFrom (i + 1) fs else usedFrom (i + 1) fs

/-- The initial heap: a leaf's seq is its rank in U (R256). -/
def heapInit : Nat → List (Nat × Nat) → List HItem
  | _, [] => []
  | i, u :: us => heapPush ⟨u.2, i, .leaf u.1⟩ (heapInit (i + 1) us)

/-- The merging loop of R256, at most k merges; none is HEAP_INVARIANT (R263): PopMin of an empty heap. -/
def heapMerge : Nat → Nat → List HItem → Option HNode
  | _, _, [] => none
  | _, _, [x] => some x.node
  | 0, _, _ => none
  | k + 1, seq, a :: b :: h => heapMerge k (seq + 1) (heapPush ⟨a.weight + b.weight, seq, .node a.node b.node⟩ h)

/-- The leaves of a tree with their depths below the root. -/
def HNode.depths : HNode → Nat → List (Nat × Nat)
  | .leaf s, d => [(s, d)]
  | .node a b, d => a.depths (d + 1) ++ b.depths (d + 1)

/-- The length list of n symbols with the given (symbol, length) pairs, 0 elsewhere. -/
def spread (n : Nat) (ps : List (Nat × Nat)) : List Nat :=
  ps.foldl (fun ls p => setAt ls p.1 p.2) (List.replicate n 0)

/-- Degenerate(FREQ) (R257), from U with at most one symbol. -/
def degenerate (n : Nat) : List (Nat × Nat) → List Nat
  | [] => spread n [(0, 1), (1, 1)]
  | u :: _ => spread n [(u.1, 1), (if u.1 = 0 then 1 else 0, 1)]

/-- cnt of R258, entry l - 1 for length l: how many used symbols have length min(LEN, M) = l. -/
def limitCounts (m : Nat) (ls : List Nat) : List Nat :=
  (List.range m).map (fun i => ls.countP (fun l => min l m == i + 1))

/-- total of R258. -/
def limitTotal (m : Nat) (cnt : List Nat) : Nat :=
  ((List.range m).map (fun i => cnt.getD i 0 * 2 ^ (m - (i + 1)))).sum

/-- The largest i below the given bound with cnt[i] > 0 (R258), entries numbered from 0; 0 where there is none. -/
def limitPick (cnt : List Nat) : Nat → Nat
  | 0 => 0
  | i + 1 => if 0 < cnt.getD i 0 then i else limitPick cnt i

/-- One pass of R258: a code of length M and one of length i make two of length i + 1. -/
def limitPass (m : Nat) (cnt : List Nat) : List Nat :=
  let c1 := setAt cnt (m - 1) (cnt.getD (m - 1) 0 - 1)
  let i := limitPick c1 (m - 1)
  let c2 := setAt c1 i (c1.getD i 0 - 1)
  setAt c2 (i + 1) (c2.getD (i + 1) 0 + 2)

/-- The passes of R258. Each lowers total by 1, so there are total - 2^M. -/
def limitLoop (m : Nat) : Nat → List Nat → List Nat
  | 0, cnt => cnt
  | k + 1, cnt => limitLoop m k (limitPass m cnt)

/-- Insert a (symbol, frequency) pair into `order` of R259: frequency ascending, then symbol ascending. -/
def orderInsert (u : Nat × Nat) : List (Nat × Nat) → List (Nat × Nat)
  | [] => [u]
  | v :: vs =>
    if decide (u.2 < v.2) || (u.2 == v.2 && decide (u.1 < v.1)) then u :: v :: vs else v :: orderInsert u vs

/-- The lengths M, M-1, …, 1 with their counts (R259). -/
def limitLens (cnt : List Nat) : Nat → List Nat
  | 0 => []
  | l + 1 => List.replicate (cnt.getD l 0) (l + 1) ++ limitLens cnt l

/-- Limit (R258, R259): the (symbol, length) pairs. -/
def limitPairs (m : Nat) (us : List (Nat × Nat)) (ls : List Nat) : List (Nat × Nat) :=
  let cnt0 := limitCounts m ls
  let cnt := limitLoop m (limitTotal m cnt0 - 2 ^ m) cnt0
  let order := us.foldr orderInsert []
  (order.map Prod.fst).zip (limitLens cnt m)

/-- The reference HUFF_LENGTHS(FREQ, M) (R256): none where the heap invariant fails (R263). -/
def huffLengths (freq : List Nat) (m : Nat) : Option (List Nat) :=
  let us := usedFrom 0 freq
  if us.length ≤ 1 then some (degenerate freq.length us)
  else match heapMerge us.length us.length (heapInit 0 us) with
    | none => none
    | some root =>
      let ds := root.depths 0
      if ds.all (fun d => decide (d.2 ≤ m)) then some (spread freq.length ds)
      else some (spread freq.length (limitPairs m us (ds.map Prod.snd)))

/-- The contract of R250 on a length list. -/
def conforms (freq : List Nat) (m : Nat) (len : List Nat) : Bool :=
  len.length == freq.length && len.all (fun l => decide (l ≤ m)) && decide (kraft len ≤ 32768) &&
    (if 2 ≤ (usedFrom 0 freq).length then
      (freq.zip len).all (fun p => decide (0 < p.1) == decide (0 < p.2)) && kraft len == 32768
    else
      len.all (fun l => decide (l ≤ 1)) && len.countP (fun l => l == 1) == 2
        && (freq.zip len).all (fun p => p.1 == 0 || p.2 == 1))

/-- The parameter HUFF_LENGTHS (00_scope.md R11): what its table gives where that meets R250, or its failure (R263); else the
reference. -/
def lengthsFor (p : Params) (freq : List Nat) (m : Nat) : Option (List Nat) :=
  match p.lengths.find? (fun r => r.freq == freq && r.maxLen == m) with
  | none => huffLengths freq m
  | some r =>
    match r.len with
    | none => none
    | some len => if conforms freq m len then some len else huffLengths freq m

/-- BLCOUNT of a length list (R253). -/
def blCounts (len : List Nat) : List Nat := 0 :: (List.range 15).map (fun i => countLen len (i + 1))

/-- The largest length (R253). -/
def maxLenOf (len : List Nat) : Nat := len.foldl max 0

end Sys2Proof.Machine
end

