-- ==== Sys2Proof/Machine/Sums.lean ====
section
/-! DEFINITION. The two checksum functions (42_checksums.md R220, R230, R231). -/

namespace Sys2Proof.Machine

/-- The loop of Adler (R220) over the two sums. -/
def adlerLoop : Nat → Nat → Bytes → Nat × Nat
  | s1, s2, [] => (s1, s2)
  | s1, s2, b :: bs =>
    let t := (s1 + b.toNat) % Config.adlerMod
    adlerLoop t ((s2 + t) % Config.adlerMod) bs

/-- Adler(st, b) (R220). -/
def adler (st : Word) (bs : Bytes) : Word :=
  let r := adlerLoop (st.extractLsb' 0 16).toNat (st.extractLsb' 16 16).toNat bs
  BitVec.ofNat 16 r.2 ++ BitVec.ofNat 16 r.1

/-- One of the eight shifts of R231. -/
def crcShift (c : Word) : Word := if c.getLsbD 0 then (c >>> 1) ^^^ 0xEDB88320 else c >>> 1

/-- CRC_T[n] (R231). -/
def crcTable (n : Byte) : Word :=
  crcShift (crcShift (crcShift (crcShift (crcShift (crcShift (crcShift (crcShift (n.setWidth 32))))))))

/-- The loop of Crc (R230). -/
def crcLoop : Word → Bytes → Word
  | x, [] => x
  | x, b :: bs => crcLoop (crcTable ((x.setWidth 8) ^^^ b) ^^^ (x >>> 8)) bs

/-- Crc(c, b) (R230). -/
def crc (c : Word) (bs : Bytes) : Word := crcLoop (c ^^^ 0xFFFFFFFF) bs ^^^ 0xFFFFFFFF

end Sys2Proof.Machine
end

