-- ==== Sys2Proof/Machine/Window.lean ====
section
/-! DEFINITION. The window, the hash chains, the longest-match search and the slide (46_lz77_compressor.md R377-R381, R386, R387,
R372). -/

namespace Sys2Proof.Machine

/-- WIN[p]. -/
def winAt (z : Lz) (p : Nat) : Byte := cellGet 0 z.win p

/-- H(s) (R379). -/
def hash3 (z : Lz) (s : Nat) : Nat :=
  (((winAt z s).toNat * 1024) ^^^ ((winAt z (s + 1)).toNat * 32) ^^^ (winAt z (s + 2)).toNat) % 32768

/-- HEAD[h]. -/
def headAt (z : Lz) (h : Nat) : Nat := cellGet 0 z.head h

/-- PREV[p & 0x7FFF]. -/
def prevAt (z : Lz) (p : Nat) : Nat := cellGet 0 z.prev (p % 32768)

/-- Insert(s) (R380): the previous head is `headAt z (hash3 z s)`. -/
def insertPos (s : Nat) (z : Lz) : Lz :=
  let h := hash3 z s
  { z with prev := cellSet 0 z.prev (s % 32768) (headAt z h), head := cellSet 0 z.head h s }

/-- How many of the next k bytes at a and at b agree (the inner loop of R381). -/
def matchRun (z : Lz) : Nat → Nat → Nat → Nat
  | 0, _, _ => 0
  | k + 1, a, b => if winAt z a = winAt z b then matchRun z k (a + 1) (b + 1) + 1 else 0

/-- The chain walk of Longest (R381): `best` and the start found so far. -/
def longestLoop (z : Lz) (cur lim nice : Nat) : Nat → Nat → Nat → Option Nat → Nat × Option Nat
  | 0, _, best, st => (best, st)
  | chain + 1, cand, best, st =>
    if cand = 0 ∨ Config.maxDist < cur - cand then (best, st)
    else
      let l := matchRun z lim cand cur
      let best2 := if best < l then l else best
      let st2 := if best < l then some cand else st
      if best < l ∧ nice ≤ l then (best2, st2)
      else
        let nx := prevAt z cand
        if cand ≤ nx then (best2, st2) else longestLoop z cur lim nice chain nx best2 st2

/-- Longest(cur, cand, prev_len) (R381). -/
def longest (z : Lz) (p : DeflParams) (cur cand prevLen : Nat) : Nat × Nat :=
  let chain := if p.good ≤ prevLen then p.maxChain / 4 else p.maxChain
  match longestLoop z cur (min Config.maxMatch z.lookahead) (min p.nice z.lookahead) chain cand (max prevLen 2) none with
  | (best, some st) => (best, st)
  | (_, none) => (2, 0)

/-- The move of the window's upper half: WIN[0..32767] takes WIN[32768..65535], which keeps its bytes (R378). -/
def slideWin (m : List Host.Cell) : List Host.Cell :=
  let up := m.filter (fun c => decide (Config.wSize ≤ c.1))
  (up.filter (fun c => decide (c.1 < Config.winCap))).map (fun c => (c.1 - Config.wSize, c.2)) ++ up

/-- The rebasing of HEAD and PREV (R378): a position below 32768 becomes NIL. -/
def slideChain (m : List (Nat × Nat)) : List (Nat × Nat) :=
  (m.filter (fun c => decide (Config.wSize < c.2))).map (fun c => (c.1, c.2 - Config.wSize))

/-- Slide (R378) without its block part. -/
def slideLz (z : Lz) : Lz :=
  { z with
    win := slideWin z.win
    strStart := z.strStart - Config.wSize
    matchStart := if 3 ≤ z.matchLen then z.matchStart - 32768 else 0
    head := slideChain z.head
    prev := slideChain z.prev }

/-- The slide is due (R378, R388). -/
def slideDue (z : Lz) : Bool := decide (Config.winCap - Config.minLookahead ≤ z.strStart)

/-- Move the cursor by n. -/
def Lz.advance (z : Lz) (n : Nat) : Lz := { z with strStart := z.strStart + n, lookahead := z.lookahead - n }

/-- Append bytes at the end of the lookahead (R373, R377). -/
def Lz.load (z : Lz) (bs : Bytes) : Lz :=
  { z with win := cellPut z.win (z.strStart + z.lookahead) bs, lookahead := z.lookahead + bs.length }

/-- Fill (R377), on the window and STAGE. -/
def fillWindow (z : Lz) (stage : Bytes) : Lz × Bytes :=
  if z.lookahead < Config.minLookahead then
    let n := Config.winCap - z.strStart - z.lookahead
    (z.load (stage.take n), stage.drop n)
  else (z, stage)

/-- LatchParams' check (R387). -/
def ctrlBad (s : State) : Bool := decide (9 < ctrlLevel s) || ctrlStrat s == 3

/-- LatchParams' writes (R387). -/
def latchParams (s : State) : State :=
  { s with defl := { s.defl with params := mkParams (ctrlLevel s) (ctrlStrat s) (ctrlNowrap s) } }

/-- WindowReset (R372): WIN keeps its bytes. -/
def windowReset (s : State) : State :=
  { s with
    lz := { Lz.reset with win := s.lz.win }
    defl := { s.defl with blockStart := 1, blockEnd := 1 } }

/-- The loop of LZ_ADVANCE (R375), n positions still to go. -/
def advanceLoop (ins : Bool) : Nat → Lz → Lz
  | 0, z => if slideDue z then slideLz z else z
  | n + 1, z =>
    let z1 := if slideDue z then slideLz z else z
    let z2 := if ins && decide (3 ≤ z1.lookahead) then insertPos z1.strStart z1 else z1
    advanceLoop ins n (z2.advance 1)

end Sys2Proof.Machine
end

