-- ==== Sys2Proof/Machine/Writer.lean ====
section
/-! DEFINITION. The bit writer's functions (45_bitstream.md R320-R331). What a write sends to PENDING is first packed into bytes;
PendPush and Flush then move them (log 16). -/

namespace Sys2Proof.Machine

/-- One operation on the writer: WriteBits(v, n), AlignW(), or raw bytes. -/
inductive WOp where
  | bits (v n : Nat)
  | align
  | raw (bs : Bytes)
deriving DecidableEq, Repr

/-- The accumulator with the bytes it has given so far, the newest first. -/
structure Pack where
  acc : Word
  n : Nat
  out : Bytes
deriving DecidableEq, Repr

/-- The loop of WriteBits (R320), at most k bytes. -/
def packBytes : Nat → Pack → Pack
  | 0, p => p
  | k + 1, p => if 8 ≤ p.n then packBytes k ⟨p.acc >>> 8, p.n - 8, p.acc.setWidth 8 :: p.out⟩ else p

/-- WriteBits(v, n) (R320). -/
def packBits (v n : Nat) (p : Pack) : Pack :=
  packBytes ((p.n + n) / 8) ⟨p.acc ||| (BitVec.ofNat 32 v <<< p.n), p.n + n, p.out⟩

/-- AlignW (R322). -/
def packAlign (p : Pack) : Pack := if 0 < p.n then ⟨0, 0, p.acc.setWidth 8 :: p.out⟩ else p

/-- One writer operation. -/
def WOp.run (o : WOp) (p : Pack) : Pack :=
  match o with
  | .bits v n => packBits v n p
  | .align => packAlign p
  | .raw bs => ⟨p.acc, p.n, bs.reverse ++ p.out⟩

/-- Writer operations in turn. -/
def packOps (ops : List WOp) (p : Pack) : Pack := ops.foldl (fun q o => o.run q) p

/-- Run writer operations on the state: the accumulator is updated, and PendPush of the bytes is next (R320-R323). -/
def writeOps (d : Dest) (ops : List WOp) (s : State) : State :=
  let p := packOps ops ⟨s.bw.acc, s.bw.n, []⟩
  { s with bw := { s.bw with acc := p.acc, n := p.n }, tasks := .pend d p.out.reverse :: s.tasks }

/-- RawW of the BW_* commands (R323): the accumulator must be empty. -/
def rawW (opc : Nat) (bs : Bytes) (s : State) : Res :=
  guardErr (s.bw.n != 0) .rawWriteUnaligned opc s (.ok (writeOps .host [.raw bs] s))

/-- The task `pend`: PendPush of each byte (R331). As many as fit are appended; a full PENDING is flushed first. -/
def runPend (d : Dest) (bs : Bytes) (s : State) : Res :=
  let room := Config.pendingCap - s.bw.pending.length
  if bs.length ≤ room then .ok { s with bw := { s.bw with pending := s.bw.pending ++ bs } }
  else if 0 < room then
    .ok { s with
      bw := { s.bw with pending := s.bw.pending ++ bs.take room }
      tasks := .flush d :: .pend d (bs.drop room) :: s.tasks }
  else .ok { s with tasks := .flush d :: .pend d bs :: s.tasks }

/-- The task `flush`: Flush (R327). Each byte leaves PENDING as it is pushed; the compressor's are counted in DEFL_OUTCOUNT
(46_lz77_compressor.md R410), and a save's go to the entry's compressed bytes (48_zip_container.md R542). -/
def runFlush (d : Dest) (s : State) : Res :=
  match d with
  | .packed =>
    .ok { s with bw := { s.bw with pending := [] }, zip := { s.zip with packed := s.zip.packed ++ s.bw.pending } }
  | .host | .stream =>
    let k := outRoom s s.bw.pending.length
    let s1 := { s with
      outq := s.outq ++ s.bw.pending.take k
      bw := { s.bw with pending := s.bw.pending.drop k }
      defl := if d = .stream then { s.defl with outCount := s.defl.outCount + BitVec.ofNat 32 k } else s.defl }
    if k < s.bw.pending.length then .hold .outSpace { s1 with tasks := .flush d :: s1.tasks } else .ok s1

end Sys2Proof.Machine
end

