-- ==== Sys2Proof/Machine/Deflate.lean ====
section
/-! DEFINITION. The compressor's engine (46_lz77_compressor.md R376, R382-R412): the three steps with the choice of MATCH_FINDER
(00_scope.md R11, R370), the block flush and the finish, cut into tasks at the places where a Flush can hold. -/

namespace Sys2Proof.Machine

/-- A raise in the compressor. HEAP_INVARIANT is the only one (R263, R413-R415); ERRINFO is the OPC (60_exceptions.md R606).
DEFL_STATE becomes ERROR, or inside ZIP_SAVE both phases become IDLE and the save is dropped (R610). -/
def failDefl (e : Err) (s : State) : Res :=
  let info := toWord (cmdOpc s.latCmd)
  if s.zip.saving then .raise e info (zipIdle s)
  else .raise e info { s with defl := { s.defl with phase := .error } }

/-- AddLit(b) (R395). -/
def addLit (b : Byte) (d : Defl) : Defl := { d with pairs := d.pairs ++ [(b.toNat, 0)], blockEnd := d.blockEnd + 1 }

/-- AddMatch(L, D) (R395). -/
def addMatch (l dist : Nat) (d : Defl) : Defl := { d with pairs := d.pairs ++ [(l, dist)], blockEnd := d.blockEnd + l }

/-- StepStored (R382). -/
def stepStored (s : State) : State :=
  { s with defl := addLit (winAt s.lz s.lz.strStart) s.defl, lz := s.lz.advance 1 }

/-- `STRSTART <- STRSTART + 1; Insert(STRSTART)`, n times (R389). -/
def insertRun : Nat → Lz → Lz
  | 0, z => z
  | n + 1, z => insertRun n (insertPos (z.strStart + 1) { z with strStart := z.strStart + 1 })

/-- The head that Insert(s) returns, or 0 with fewer than 3 bytes loaded, with the window after it (R389, R390). -/
def insertHead (z : Lz) : Nat × Lz :=
  if 3 ≤ z.lookahead then (headAt z (hash3 z z.strStart), insertPos z.strStart z) else (0, z)

/-- StepFast (R389). -/
def stepFast (s : State) : State :=
  let p := s.defl.params
  let st := s.lz.strStart
  let (hh, z) := insertHead s.lz
  let (ml, ms) := if hh ≠ 0 ∧ st - hh ≤ Config.maxDist then longest z p st hh 2 else (2, 0)
  if 3 ≤ ml then
    let la := z.lookahead - ml
    let z1 := { z with lookahead := la }
    let z2 :=
      if ml ≤ p.maxLazy ∧ 3 ≤ la then
        let zi := insertRun (ml - 1) z1
        { zi with strStart := zi.strStart + 1 }
      else { z1 with strStart := z1.strStart + ml }
    { s with lz := z2, defl := addMatch ml (st - ms) s.defl }
  else { s with lz := z.advance 1, defl := addLit (winAt z st) s.defl }

/-- The insert loop of StepLazy (R390): only positions with three loaded bytes, `bound` being s + la0. -/
def insertBounded (bound : Nat) : Nat → Lz → Lz
  | 0, z => z
  | n + 1, z =>
    let z1 := { z with strStart := z.strStart + 1 }
    insertBounded bound n (if z1.strStart + 3 ≤ bound then insertPos z1.strStart z1 else z1)

/-- StepLazy (R390). -/
def stepLazy (s : State) : State :=
  let p := s.defl.params
  let st := s.lz.strStart
  let (hh, z) := insertHead s.lz
  let prevLen := s.lz.matchLen
  let prevMatch := s.lz.matchStart
  let (ml, ms) : Nat × Int :=
    if hh ≠ 0 ∧ prevLen < p.maxLazy ∧ st - hh ≤ Config.maxDist then
      let r := longest z p st hh prevLen
      (r.1, (r.2 : Int))
    else (2, prevMatch)
  let z1 := { z with matchLen := ml, matchStart := ms }
  if 3 ≤ prevLen ∧ ml ≤ prevLen then
    let z2 := insertBounded (st + z1.lookahead) (prevLen - 2) { z1 with lookahead := z1.lookahead - (prevLen - 1) }
    { s with
      lz := { z2 with matchAvail := false, matchLen := 2, strStart := z2.strStart + 1 }
      defl := addMatch prevLen ((st : Int) - 1 - prevMatch).toNat s.defl }
  else if s.lz.matchAvail then
    { s with lz := z1.advance 1, defl := addLit (winAt z1 (st - 1)) s.defl }
  else { s with lz := { z1.advance 1 with matchAvail := true } }

/-- The task `deflRun`: the slide test at the head of the loop (R388, R378). -/
def runDefl (s : State) : Res :=
  if slideDue s.lz then
    let after := .slide :: .deflGo :: s.tasks
    .ok { s with tasks := if s.defl.blockStart < s.defl.blockEnd then .flushBlock false :: after else after }
  else .ok { s with tasks := .deflGo :: s.tasks }

/-- The task `slide`: Slide(1) after its flush (R378). -/
def runSlide (s : State) : Res :=
  .ok { s with
    lz := slideLz s.lz
    defl := { s.defl with
      blockStart := s.defl.blockStart - Config.wSize
      blockEnd := s.defl.blockEnd - Config.wSize } }

/-- One step of the reference's strategy (R388). -/
def referenceStep (s : State) : State :=
  match s.defl.params.strategy with
  | .stored => stepStored s
  | .fast => stepFast s
  | .lazy => stepLazy s

/-- The byte that MATCH_AVAIL holds goes out as a literal (R393). -/
def emitHeld (s : State) : State :=
  if s.lz.matchAvail then
    { s with defl := addLit (winAt s.lz (s.lz.strStart - 1)) s.defl, lz := { s.lz with matchAvail := false } }
  else s

/-- How many input bytes since DEFL_RESET stand before the cursor (R370): all but those staged and those in the lookahead. -/
def inputBefore (s : State) : Nat := s.defl.input.length - (s.defl.stage.length + s.lz.lookahead)

/-- The match contract (R370): L input bytes at the cursor, all of them loaded, equal the L bytes that start D bytes before it in this
stream's input. -/
def matchOk (s : State) (l d : Nat) : Bool :=
  let at0 := inputBefore s
  let cur := (s.defl.input.drop at0).take l
  decide (3 ≤ l) && decide (l ≤ Config.maxMatch) && decide (1 ≤ d) && decide (d ≤ Config.maxDist) && decide (l ≤ s.lz.lookahead)
    && decide (d ≤ at0) && cur.length == l && (s.defl.input.drop (at0 - d)).take l == cur

/-- The row of MATCH_FINDER's table for DEFL_PARAMS and the input around the cursor. A step with DEFL_FIN = 0 has at least
MIN_LOOKAHEAD bytes loaded and one with DEFL_FIN = 1 has all input, so the row is the same however the input was split (R396). -/
def findRow (s : State) : List FindRow → Option FindRow
  | [] => none
  | r :: rs =>
    if r.dp = s.defl.params ∧ r.hist = s.defl.input.take (inputBefore s)
      ∧ r.ahead = (s.defl.input.drop (inputBefore s)).take Config.minLookahead then some r
    else findRow s rs

/-- MATCH_FINDER's choice (00_scope.md R11), where its table has one that meets R370; a literal is always allowed. -/
def finderChoice (s : State) : Option FindRow :=
  match findRow s s.params.finder with
  | none => none
  | some r =>
    match r.take with
    | none => some r
    | some m => if matchOk s m.1 m.2 then some r else none

/-- Insert (R380) of the covered positions a choice links (92_eei_decisions.md D27), of n covered from the cursor on; a position
without three loaded bytes has no hash (R379) and is not linked. -/
def linkCovered (n : Nat) : List Nat → Lz → Lz
  | [], z => z
  | o :: os, z => linkCovered n os (if o < n ∧ o + 3 ≤ z.lookahead then insertPos (z.strStart + o) z else z)

/-- A chosen step: a byte still held by MATCH_AVAIL goes out first, as a step of its own; then the literal or the match, the covered
positions being linked as the row says (log 8). -/
def stepChosen (r : FindRow) (s : State) : State :=
  let s1 := emitHeld s
  let s2 :=
    if s.lz.matchAvail then s1
    else match r.take with
      | none =>
        { s1 with
          defl := addLit (winAt s1.lz s1.lz.strStart) s1.defl
          lz := (linkCovered 1 r.link s1.lz).advance 1 }
      | some m =>
        { s1 with
          defl := addMatch m.1 m.2 s1.defl
          lz := (linkCovered m.1 r.link s1.lz).advance m.1 }
  { s2 with lz := { s2.lz with matchLen := 2 } }

/-- One step of the compressor (R388, R11): MATCH_FINDER's choice where it differs from the reference, else the reference. A row for
level 0 replaces the step of R382 too (log 8). -/
def deflStep (s : State) : State :=
  match finderChoice s with
  | some r => stepChosen r s
  | none => referenceStep s

/-- The start of Finish (R411): the held byte goes out as a literal (R393), then FlushBlock(1). -/
def startFinish (s : State) : State :=
  let s1 := emitHeld s
  { s1 with tasks := .flushBlock true :: .deflTail :: s1.tasks }

/-- The task `deflGo`: the loop from Fill on (R388). -/
def runDeflGo (s : State) : Res :=
  let (z, stage) := fillWindow s.lz s.defl.stage
  let s1 := { s with lz := z, defl := { s.defl with stage := stage } }
  if z.lookahead < Config.minLookahead ∧ s1.defl.fin = false then
    .ok { s1 with defl := { s1.defl with phase := .filling } }
  else if z.lookahead = 0 then .ok (startFinish s1)
  else
    let s2 := deflStep { s1 with defl := { s1.defl with phase := .searching } }
    let next := .deflRun :: s2.tasks
    .ok { s2 with tasks := if Config.litBufsize ≤ s2.defl.pairs.length then .flushBlock false :: next else next }

/-! ## The block flush -/

/-- Add 1 to element i of a list of counts. -/
def bump (i : Nat) (l : List Nat) : List Nat := setAt l i (l.getD i 0 + 1)

/-- The symbol counts of R400: literal/length, distance, and the sum of extra bits. -/
structure BlockStats where
  lf : List Nat
  df : List Nat
  xb : Nat
deriving DecidableEq, Repr

/-- Count one pair (R400). -/
def countPair (b : BlockStats) (p : Nat × Nat) : BlockStats :=
  if p.2 = 0 then { b with lf := bump p.1 b.lf }
  else
    let c := lenCode p.1
    let e := distCode p.2
    { lf := bump (257 + c) b.lf, df := bump e b.df, xb := b.xb + lenExtra.getD c 0 + distExtra.getD e 0 }

/-- The counts of a block, the end-of-block symbol included (R400). -/
def blockStats (pairs : List (Nat × Nat)) : BlockStats :=
  let b := pairs.foldl countPair ⟨List.replicate 286 0, List.replicate 30 0, 0⟩
  { b with lf := bump 256 b.lf }

/-- 1 + the largest index of a non-zero element, 0 where there is none. -/
def usedLen (l : List Nat) : Nat := (l.reverse.dropWhile (fun x => x == 0)).length

/-- A code-length symbol with its extra bits: k, v, w (R408). -/
structure ClSym where
  k : Nat
  v : Nat
  w : Nat
deriving DecidableEq, Repr

/-- What ends a run of `count` lengths `cur` (R408). -/
def rleEmit (cur : Nat) (prev : Option Nat) (count minc : Nat) : List ClSym :=
  if count < minc then List.replicate count ⟨cur, 0, 0⟩
  else if cur ≠ 0 then
    if prev = some cur then [⟨16, count - 3, 2⟩] else [⟨cur, 0, 0⟩, ⟨16, count - 1 - 3, 2⟩]
  else if count ≤ 10 then [⟨17, count - 3, 3⟩]
  else [⟨18, count - 11, 7⟩]

/-- The loop of RLE (R408). -/
def rleLoop : List Nat → Option Nat → Nat → Nat → Nat → List ClSym
  | [], _, _, _, _ => []
  | cur :: rest, prev, count, maxc, minc =>
    let n := count + 1
    if n < maxc ∧ rest.head? = some cur then rleLoop rest prev n maxc minc
    else
      let lim := if rest.head? = some 0 then (138, 3) else if rest.head? = some cur then (6, 3) else (7, 4)
      rleEmit cur prev n minc ++ rleLoop rest (some cur) 0 lim.1 lim.2

/-- RLE(lens) (R408). -/
def rle (lens : List Nat) : List ClSym :=
  let lim := if lens.head? = some 0 then (138, 3) else (7, 4)
  rleLoop lens none 0 lim.1 lim.2

/-- What FlushBlock has computed when it chooses (R400). -/
structure BlockPlan where
  stats : BlockStats
  len0 : List Nat
  len1 : List Nat
  len2 : List Nat
  hlit : Nat
  hdist : Nat
  hclen : Nat
  bf : List Nat
  seq : List ClSym
deriving DecidableEq, Repr

/-- HLIT (R400). -/
def hlitOf (l0 : List Nat) : Nat := max 257 (usedLen l0)

/-- HDIST (R400). -/
def hdistOf (l1 : List Nat) : Nat := max 1 (usedLen l1)

/-- SEQ (R400). -/
def lenSeq (l0 l1 : List Nat) : List ClSym := rle (l0.take (hlitOf l0)) ++ rle (l1.take (hdistOf l1))

/-- bf, the counts of SEQ's symbols (R400). -/
def clCounts (seq : List ClSym) : List Nat := seq.foldl (fun b q => bump q.k b) (List.replicate 19 0)

/-- The three trees of a block and its code-length sequence (R400): none is HEAP_INVARIANT (R263). -/
def planBlock (q : Params) (pairs : List (Nat × Nat)) : Option BlockPlan :=
  let st := blockStats pairs
  match lengthsFor q st.lf Config.maxCodeLen, lengthsFor q st.df Config.maxCodeLen with
  | some l0, some l1 =>
    let seq := lenSeq l0 l1
    let bf := clCounts seq
    match lengthsFor q bf Config.blMaxLen with
    | some l2 =>
      some ⟨st, l0, l1, l2, hlitOf l0, hdistOf l1, max 4 (usedLen (clOrder.map (fun k => l2.getD k 0))), bf, seq⟩
    | none => none
  | _, _ => none

/-- Σ f[s]·l[s]. -/
def dot : List Nat → List Nat → Nat
  | f :: fs, l :: ls => f * l + dot fs ls
  | _, _ => 0

/-- stored_bits (R401) for n bytes. -/
def storedBits (n : Nat) : Nat := 8 * n + 40
/-- fixed_bits (R401). -/
def fixedBits (p : BlockPlan) : Nat := 3 + dot p.stats.lf fixedLL + 5 * p.stats.df.sum + p.stats.xb
/-- dynamic_bits (R401). -/
def dynamicBits (p : BlockPlan) : Nat :=
  3 + 14 + 3 * p.hclen + dot p.bf p.len2 + (p.seq.map ClSym.w).sum + dot p.stats.lf p.len0 + dot p.stats.df p.len1
    + p.stats.xb

/-- The choice of the block type (R402): BTYPE. -/
def blockKind (level n : Nat) (p : BlockPlan) : Nat :=
  if level = 0 ∨ storedBits n < min (fixedBits p) (dynamicBits p) then 0
  else if fixedBits p ≤ dynamicBits p then 1
  else 2

/-- A symbol's code, then its extra bits where it has some. -/
def symOps (code len v w : Nat) : List WOp := .bits code len :: (if 0 < w then [.bits v w] else [])

/-- One pair of EmitSymbols (R409) with codes CC, lengths CL, DC, DL. -/
def pairOps (cc cl dc dl : List Nat) (p : Nat × Nat) : List WOp :=
  if p.2 = 0 then [.bits (cc.getD p.1 0) (cl.getD p.1 0)]
  else
    let c := lenCode p.1
    let e := distCode p.2
    symOps (cc.getD (257 + c) 0) (cl.getD (257 + c) 0) (p.1 - lenBase.getD c 0) (lenExtra.getD c 0)
      ++ symOps (dc.getD e 0) (dl.getD e 0) (p.2 - distBase.getD e 0) (distExtra.getD e 0)

/-- EmitSymbols (R409) without its flush. -/
def symbolOps (cl dl : List Nat) (pairs : List (Nat × Nat)) : List WOp :=
  let cc := revCodes cl
  let dc := revCodes dl
  pairs.flatMap (pairOps cc cl dc dl) ++ [.bits (cc.getD 256 0) (cl.getD 256 0)]

/-- The table header of a dynamic block (R407). -/
def dynamicOps (p : BlockPlan) : List WOp :=
  let c2 := revCodes p.len2
  [.bits (p.hlit - 257) 5, .bits (p.hdist - 1) 5, .bits (p.hclen - 4) 4]
    ++ (clOrder.take p.hclen).map (fun k => .bits (p.len2.getD k 0) 3)
    ++ p.seq.flatMap (fun q => symOps (c2.getD q.k 0) (p.len2.getD q.k 0) q.v q.w)

/-- The whole emission of a block (R403, R405-R409): n bytes `raw` and the pairs. -/
def blockOps (final : Bool) (kind : Nat) (raw : Bytes) (pairs : List (Nat × Nat)) (p : BlockPlan) : List WOp :=
  [.bits final.toNat 1, .bits kind 2] ++
    (match kind with
    | 0 => [.align, .raw (le16 raw.length ++ le16 (raw.length ^^^ 65535)), .raw raw]
    | 1 => symbolOps fixedLL fixedD pairs
    | _ => dynamicOps p ++ symbolOps p.len0 p.len1 pairs)

/-- A tree as FlushBlock leaves it (R400, 43_huffman_encoder.md R265). -/
def builtTree (freq len : List Nat) : HTree :=
  { freq := freq.map toWord, len := len, code := revCodes len, blCount := blCounts len, tBuilt := true, cBuilt := true }

/-- A tree whose FREQ is counted and whose lengths are not yet built (R400; 43_huffman_encoder.md R265: as after HENC_RESET and
HENC_RECORD). -/
def countedTree (freq : List Nat) : HTree := { HTree.reset freq.length with freq := freq.map toWord }

/-- The trees that a failing FlushBlock leaves (R400 in its order, R607, log 34): those before the failing build are built, the
failing one holds its counts, those after it are untouched. -/
def failedTrees (s : State) : State :=
  let st := blockStats s.defl.pairs
  match lengthsFor s.params st.lf Config.maxCodeLen with
  | none => { s with t0 := countedTree st.lf }
  | some l0 =>
    match lengthsFor s.params st.df Config.maxCodeLen with
    | none => { s with t0 := builtTree st.lf l0, t1 := countedTree st.df }
    | some l1 => { s with
        t0 := builtTree st.lf l0
        t1 := builtTree st.df l1
        t2 := countedTree (clCounts (lenSeq l0 l1)) }

/-- Where the compressor's flushes go. -/
def deflDest (s : State) : Dest := if s.zip.saving then .packed else .stream

/-- The task `flushBlock`: FlushBlock up to its Flush (R400-R409). Where a build fails, the raise finds the trees as R400's order
has left them (log 34). -/
def runFlushBlock (final : Bool) (s : State) : Res :=
  match planBlock s.params s.defl.pairs with
  | none => failDefl .heapInvariant (failedTrees s)
  | some p =>
    let n := s.defl.blockEnd - s.defl.blockStart
    let raw := cellTake s.lz.win s.defl.blockStart n
    let kind := blockKind s.defl.params.level n p
    let d := deflDest s
    .ok (writeOps d (blockOps final kind raw s.defl.pairs p) { s with
      defl := { s.defl with phase := .emitting }
      t0 := builtTree p.stats.lf p.len0
      t1 := builtTree p.stats.df p.len1
      t2 := builtTree p.bf p.len2
      tasks := .blockEnd :: .flush d :: .blockDone :: s.tasks })

/-- The task `blockEnd` (R409). -/
def runBlockEnd (s : State) : Res :=
  .ok { s with defl := { s.defl with pairs := [], blockStart := s.defl.blockEnd } }

/-- The task `blockDone` (R409). -/
def runBlockDone (s : State) : Res := .ok { s with defl := { s.defl with phase := .searching } }

/-- The task `deflTail`: AlignW, the trailer, then Flush (R411). -/
def runDeflTail (s : State) : Res :=
  let d := deflDest s
  let tail := if s.defl.params.nowrap then [.align] else [.align, .raw (be32 s.defl.adler.toNat)]
  .ok (writeOps d tail { s with tasks := .flush d :: .deflDone :: s.tasks })

/-- The task `deflDone` (R411). -/
def runDeflDone (s : State) : Res := .ok { s with defl := { s.defl with phase := .finished } }

/-- The header bytes of ZlibHeader (R412, 30_encoding.md R151). -/
def zlibHeaderBytes (level : Nat) : Bytes :=
  if level ≤ 1 then [0x78, 0x01] else if level ≤ 5 then [0x78, 0x5E] else if level = 6 then [0x78, 0x9C] else [0x78, 0xDA]

/-- DEFL_RESET's pseudocode after LatchParams (R376); `p` is DEFL_PARAMS. -/
def deflReset (p : DeflParams) (s : State) : State :=
  let s1 := windowReset { s with
    t0 := HTree.reset 286
    t1 := HTree.reset 30
    t2 := HTree.reset 19
    bw := { acc := 0, n := 0, pending := if p.nowrap then [] else zlibHeaderBytes p.level } }
  { s1 with defl := { s1.defl with
    params := p
    pairs := []
    stage := []
    input := []
    adler := 1
    outCount := 0
    fin := false
    phase := .filling } }

/-- Bytes enter STAGE (R413, R415). -/
def stageBytes (bs : Bytes) (s : State) : State :=
  { s with defl := { s.defl with
    stage := s.defl.stage ++ bs
    input := s.defl.input ++ bs
    adler := adler s.defl.adler bs } }

/-- DEFL_FIN <- 1. -/
def setFin (s : State) : State := { s with defl := { s.defl with fin := true } }

/-- The task `compress`: the input loop of COMPRESS (R415), every byte of IN at a time (log 20). -/
def runCompress (s : State) : Res :=
  if s.inq ≠ [] then
    .ok { stageBytes s.inq s with inq := [], tasks := .deflRun :: .compress :: s.tasks }
  else if s.inEnd then .ok { setFin s with tasks := .deflRun :: .deflFinishRes :: s.tasks }
  else .hold (.inBytes 1) { s with tasks := .compress :: s.tasks }

/-- The task `deflInputRes` (R413). -/
def runDeflInputRes (s : State) : Res := .ok (setRes [(0, s.defl.outCount)] s)

/-- The task `deflFinishRes` (R414, R415). -/
def runDeflFinishRes (s : State) : Res := .ok (setRes [(0, s.defl.outCount), (1, s.defl.adler)] s)

end Sys2Proof.Machine
end

