-- ==== Sys2Proof/Machine/Reader.lean ====
section
/-! DEFINITION. The bit reader and the Huffman decoder as functions of a bit source (45_bitstream.md R340-R352,
44_huffman_decoder.md R290-R296). A bit source is the accumulator, the bytes its source can supply now, and how many were
popped. -/

namespace Sys2Proof.Machine

/-- The reader's accumulator with the bytes its source can supply, and how many it has popped. -/
structure BitSrc where
  acc : Word
  n : Nat
  bytes : Bytes
  pops : Nat
deriving DecidableEq, Repr

/-- Refill(L) over the bytes available (44_huffman_decoder.md R295, 45_bitstream.md R340). -/
def refillLoop (l : Nat) (acc : Word) (n pops : Nat) : Bytes → BitSrc
  | [] => ⟨acc, n, [], pops⟩
  | b :: bs =>
    if n < l then refillLoop l (acc ||| (b.setWidth 32 <<< n)) (n + 8) (pops + 1) bs else ⟨acc, n, b :: bs, pops⟩

/-- Refill(L). -/
def BitSrc.refill (l : Nat) (b : BitSrc) : BitSrc := refillLoop l b.acc b.n b.pops b.bytes

/-- The low k bits of the accumulator as a number. -/
def BitSrc.low (k : Nat) (b : BitSrc) : Nat := b.acc.toNat % 2 ^ k

/-- Drop the low k bits. -/
def BitSrc.drop (k : Nat) (b : BitSrc) : BitSrc := { b with acc := b.acc >>> k, n := b.n - k }

/-- AlignR (R352). -/
def BitSrc.align (b : BitSrc) : BitSrc := b.drop (b.n % 8)

/-- The symbol, from i on, whose code has length l and value c (R295). -/
def findSym (l c : Nat) : Nat → List Nat → List Nat → Option Nat
  | i, k :: ks, d :: ds => if k = l ∧ d = c then some i else findSym l c (i + 1) ks ds
  | _, _, _ => none

/-- Some code longer than a bits begins with the a-bit prefix p (R295). -/
def hasPrefix (a p : Nat) : List Nat → List Nat → Bool
  | k :: ks, d :: ds => (decide (a < k) && d / 2 ^ (k - a) == p) || hasPrefix a p ks ds
  | _, _ => false

/-- What the loop of Decode finds (R295): a symbol, no code among 15 bits, or too few bits. -/
inductive Decoded where
  | sym (s : Nat)
  | invalid
  | short
deriving DecidableEq, Repr

/-- The loop of Decode over the lengths still to try (R295), `code` being Canon(DLEN). -/
def decodeLoop (len code : List Nat) : List Nat → BitSrc → Decoded × BitSrc
  | [], b => (.invalid, b)
  | l :: ls, b =>
    let b := b.refill l
    if b.n < l then (.short, b)
    else match findSym l (bitrev l (b.low l)) 0 len code with
      | some s => (.sym s, b.drop l)
      | none => decodeLoop len code ls b

/-- Decode(D) up to the point `short` (R295). -/
def decodeSym (len : List Nat) (b : BitSrc) : Decoded × BitSrc :=
  decodeLoop len (canon len) [1, 2, 3, 4, 5, 6, 7, 8, 9, 10, 11, 12, 13, 14, 15] b

/-- At `short`: the bits held are a proper prefix of some code, so the result is INSUFFICIENT (R295). -/
def shortIsPrefix (len : List Nat) (b : BitSrc) : Bool := hasPrefix b.n (bitrev b.n (b.low b.n)) len (canon len)

/-- Build(D, LEN) (R290): none is HUFF_OVERSUBSCRIBED. -/
def buildTable (len : List Nat) : Option DTable :=
  if 32768 < kraft len then none else some ⟨len, true⟩

/-- The reader of the standalone commands: its source is IN, and what IN holds now is all it can supply (R295, R340). -/
def brSrc (s : State) : BitSrc := ⟨s.br.acc, s.br.n, s.inq, 0⟩

/-- The state with the reader and IN as a bit source left them. -/
def brPut (s : State) (b : BitSrc) : State := { s with br := ⟨b.acc, b.n⟩, inq := b.bytes }

end Sys2Proof.Machine
end

