-- ==== Sys2Proof/Machine/Inflate.lean ====
section
/-! DEFINITION. The decompressor's engine (47_deflate_decompressor.md R450-R467): reading through its source, the next wire symbol at
the cursor (10_state.md R36), and the operations that give each wire symbol its effect. The task `infl` stays at the head of the
tasks while it runs; `cont` is its place (log 15). -/

namespace Sys2Proof.Machine

/-! ## The source -/

/-- The reader with the source that INFL_SRC names (R76, R340). -/
def inflSrc (s : State) : BitSrc :=
  match s.infl.src with
  | .input => ⟨s.br.acc, s.br.n, s.inq, 0⟩
  | .entry _ _ rest => ⟨s.br.acc, s.br.n, rest, 0⟩

/-- The source may still supply bytes it does not hold now (R466). -/
def inflMore (s : State) : Bool :=
  match s.infl.src with
  | .input => !s.inEnd
  | .entry _ _ _ => false

/-- The state with reader and source as a bit source left them; each pop adds 1 to INFL_CONSUMED (R340). -/
def inflPut (s : State) (b : BitSrc) : State :=
  let s1 := { s with br := ⟨b.acc, b.n⟩, infl := { s.infl with consumed := s.infl.consumed + toWord b.pops } }
  match s.infl.src with
  | .input => { s1 with inq := b.bytes }
  | .entry i p _ => { s1 with infl := { s1.infl with src := .entry i p b.bytes } }

/-- A raise inside InflRun. From IN: INFL_STATE becomes ERROR and ERRINFO is INFL_CONSUMED (R465). In an entry decode: both phases
are IDLE, ERRINFO is the entry's index (60_exceptions.md R606, R610). An InternalError's ERRINFO is the OPC. -/
def failInfl (e : Err) (s : State) : Res :=
  let opc := toWord (cmdOpc s.latCmd)
  match s.infl.src with
  | .input =>
    .raise e (if e.cls = 5 then opc else s.infl.consumed) { s with infl := { s.infl with phase := .error, cont := .none } }
  | .entry i _ _ => .raise e (if e.cls = 5 then opc else toWord i) (zipIdle s)

/-- What a read gives: a value with the state after it, or the reason why the read stops the command. -/
inductive Got where
  | val (v : Nat) (s : State)
  | stop (r : Res)

/-- Go on with the value read. -/
def Got.bind (g : Got) (f : Nat → State → Res) : Res :=
  match g with
  | .val v s => f v s
  | .stop r => r

/-- ReadBits(n) (R345, R466). -/
def readBits (n : Nat) (s : State) : Got :=
  let b := (inflSrc s).refill n
  if b.n < n then
    .stop (if inflMore s then .hold (.inBytes 1) (inflPut s b) else failInfl .truncated (inflPut s b))
  else .val (b.low n) (inflPut s (b.drop n))

/-- ReadAlignedByte (R351). -/
def readByte (s : State) : Got :=
  if s.br.n % 8 ≠ 0 then .stop (failInfl .rawReadUnaligned s) else readBits 8 s

/-- AlignR (R352). -/
def inflAlign (s : State) : State := inflPut s (inflSrc s).align

/-- Sym(D) (R466, 44_huffman_decoder.md R295). -/
def readSym (d : DTable) (s : State) : Got :=
  match decodeSym d.len (inflSrc s) with
  | (.sym k, b) => .val k (inflPut s b)
  | (.invalid, b) => .stop (failInfl .huffInvalidCode (inflPut s b))
  | (.short, b) =>
    .stop (if inflMore s then .hold (.inBytes 1) (inflPut s b)
      else failInfl (if shortIsPrefix d.len b then .truncated else .huffInvalidCode) (inflPut s b))

/-! ## State changes -/

/-- INFL_CONT. -/
def setCont (c : InflCont) (s : State) : State := { s with infl := { s.infl with cont := c } }

/-- `pc <- P` of the decompressor (R18), at the start of the phase. -/
def setInflPhase (p : InflPhase) (s : State) : State := { s with infl := { s.infl with phase := p, cont := .none } }

/-- EndOfBlock (R453). -/
def endOfBlock (s : State) : State :=
  setInflPhase (if !s.infl.final then .blockHeader else if !s.infl.nowrap then .checksum else .done) s

/-- Output(b) (R462, 48_zip_container.md R531). -/
def output (b : Byte) (s : State) : Res :=
  let s1 := { s with infl := { s.infl with
    owin := cellSet 0 s.infl.owin s.infl.owpos.toNat b
    owpos := s.infl.owpos + 1
    total := s.infl.total + 1
    adler := adler s.infl.adler [b] } }
  match s.infl.src with
  | .input => outPush [b] s1
  | .entry _ push _ =>
    let s2 := { s1 with zip := { s1.zip with dbuf := s1.zip.dbuf ++ [b] } }
    if push then outPush [b] s2 else .ok s2

/-- INFL_RESET's pseudocode (R450). -/
def inflReset (s : State) : State :=
  { s with
    br := Br.reset
    infl := { Infl.reset with
      owin := s.infl.owin
      nowrap := ctrlNowrap s
      phase := if ctrlNowrap s then .blockHeader else .header } }

/-! ## Block headers -/

/-- The rest of StoredHeader, k bytes of LEN and NLEN still to read (R456). -/
def storedHeader : Nat → Bytes → State → Res
  | 0, bs, s =>
    let len := leValue (bs.take 2)
    if len ≠ leValue (bs.drop 2) ^^^ 65535 then failInfl .storedLenMismatch s
    else .ok { setInflPhase .storedCopy s with infl := { s.infl with phase := .storedCopy, cont := .none, storedRem := len } }
  | k + 1, bs, s =>
    (readByte s).bind fun b s =>
      let bs := bs ++ [BitVec.ofNat 8 b]
      storedHeader k bs (setCont (.stored bs) s)

/-- The two header fields of BlockHeader (R455). -/
def setBlock (fin : Bool) (t : BitVec 2) (s : State) : State := { s with infl := { s.infl with final := fin, btype := t } }

/-- A stored block (R455, R456). -/
def wireStored (fin : Bool) (s : State) : Res := storedHeader 4 [] (setCont (.stored []) (inflAlign (setBlock fin 0 s)))

/-- A fixed block (R455, R457). -/
def wireFixed (fin : Bool) (s : State) : Res :=
  .ok { setInflPhase .huffmanDecode (setBlock fin 1 s) with d0 := ⟨fixedLL, true⟩, d1 := ⟨fixedD, true⟩ }

/-- Build of a table in a dynamic header (R290, R458). -/
def inflBuild (t : Sel) (len : List Nat) (s : State) (f : State → Res) : Res :=
  match buildTable len with
  | none => failInfl .huffOversubscribed (setTable s t { getTable s t with built := false })
  | some d => f (setTable s t d)

/-- The code-length code lengths, k still to read, the i-th next; then Build(D2, CLLEN) (R458). -/
def readCllen : Nat → Nat → State → Res
  | 0, _, s => inflBuild .two s.infl.cllen s fun s => .ok { s with infl := { s.infl with lenseq := [], cont := .clens } }
  | k + 1, i, s =>
    (readBits 3 s).bind fun v s =>
      readCllen k (i + 1) { s with infl := { s.infl with
        cllen := setAt s.infl.cllen (clOrder.getD i 0) v
        cont := .cllen (i + 1) } }

/-- HCLEN, then the range check of HLIT (R458). -/
def readHclen (s : State) : Res :=
  (readBits 4 s).bind fun v s =>
    let s1 := { s with infl := { s.infl with hclen := v + 4 } }
    if 286 < s1.infl.hlit then failInfl .hlitRange s1
    else readCllen (v + 4) 0 { s1 with infl := { s1.infl with cllen := List.replicate 19 0, cont := .cllen 0 } }

/-- HDIST (R458). -/
def readHdist (s : State) : Res :=
  (readBits 5 s).bind fun v s => readHclen { s with infl := { s.infl with hdist := v + 1, cont := .hclen } }

/-- HLIT (R458). -/
def readHlit (s : State) : Res :=
  (readBits 5 s).bind fun v s => readHdist { s with infl := { s.infl with hlit := v + 257, cont := .hdist } }

/-- A dynamic block (R455, R458). -/
def wireDynamic (fin : Bool) (s : State) : Res := readHlit (setCont .hlit (setBlock fin 2 s))

/-- A reserved block type (R455). -/
def wireReserved (fin : Bool) (s : State) : Res := failInfl .btypeReserved (setBlock fin 3 s)

/-! ## Code-length symbols -/

/-- After an append to LENSEQ: the next symbol, or Build(D0), Build(D1) and HUFFMAN_DECODE (R458). -/
def lensAppended (s : State) : Res :=
  if s.infl.lenseq.length < s.infl.hlit + s.infl.hdist then .ok (setCont .clens s)
  else
    inflBuild .zero (s.infl.lenseq.take s.infl.hlit) s fun s =>
      inflBuild .one ((s.infl.lenseq.take (s.infl.hlit + s.infl.hdist)).drop s.infl.hlit) s fun s =>
        .ok (setInflPhase .huffmanDecode s)

/-- Append v r times (R458). -/
def appendLens (v r : Nat) (s : State) : Res :=
  lensAppended { s with infl := { s.infl with lenseq := s.infl.lenseq ++ List.replicate r v } }

/-- A repeat: CLEN_OVERRUN where it runs past HLIT + HDIST (R458). -/
def repeatLens (v r : Nat) (s : State) : Res :=
  if s.infl.hlit + s.infl.hdist < s.infl.lenseq.length + r then failInfl .clenOverrun s else appendLens v r s

/-- Code-length symbol 0-15 (R163, R458). -/
def wireClLen (v : Nat) (s : State) : Res := appendLens v 1 s

/-- Code-length symbol 16 (R163, R458). -/
def wireClPrev (e : Nat) (s : State) : Res :=
  match s.infl.lenseq.getLast? with
  | none => failInfl .clenRepeatNoPrev s
  | some v => repeatLens v (3 + e) s

/-- Code-length symbols 17 and 18 (R163, R458): base + E zeros. -/
def wireClZero (base e : Nat) (s : State) : Res := repeatLens 0 (base + e) s

/-! ## Literal/length and distance symbols -/

/-- A literal (R459). -/
def wireLit (b : Byte) (s : State) : Res := output b (setCont .none s)

/-- End of block (R459, R453). -/
def wireEob (s : State) : Res := .ok (endOfBlock s)

/-- Length code 257 + c with extra bits e (R460): the distance symbol is next. -/
def wireLen (c e : Nat) (s : State) : Res := .ok (setCont (.dist (lenBase.getD c 0 + e)) s)

/-- Symbols 286 and 287 (R459). -/
def wireLitlenReserved (s : State) : Res := failInfl .litlenReserved s

/-- The copy of BackRef (R461), byte by byte; before each byte the place is the rest of the copy. -/
def copyLoop : Nat → Nat → State → Res
  | 0, _, s => .ok (setCont .none s)
  | r + 1, d, s =>
    let b := cellGet 0 s.infl.owin (s.infl.owpos - BitVec.ofNat 16 d).toNat
    (output b (setCont (.copy r d) s)).andThen (copyLoop r d)

/-- The length of the match whose distance is read (R461); 0 where none is (log 21). -/
def pendingLen (s : State) : Nat :=
  match s.infl.cont with
  | .dist l => l
  | .distExtra l _ => l
  | _ => 0

/-- Distance code c with extra bits e (R461). -/
def wireDist (c e : Nat) (s : State) : Res :=
  let d := distBase.getD c 0 + e
  if s.infl.total < d then failInfl .distTooFar s else copyLoop (pendingLen s) d s

/-- Distance symbols 30 and 31 (R461). -/
def wireDistReserved (s : State) : Res := failInfl .distReserved s

/-! ## The wrapper -/

/-- ZlibHeaderCheck (R454) on a header whose CM is 8. -/
def wireZlibHeader (cinfo : BitVec 4) (flg : Byte) (s : State) : Res :=
  if ((8 + 16 * cinfo.toNat) * 256 + flg.toNat) % 31 ≠ 0 then failInfl .zlibFcheck s
  else if 7 < cinfo.toNat then failInfl .zlibWindow s
  else if flg.getLsbD 5 then failInfl .zlibFdict s
  else .ok (setInflPhase .blockHeader s)

/-- TrailerCheck after its bytes are read (R463). -/
def wireZlibTrailer (t : Word) (s : State) : Res :=
  let s1 := { s with infl := { s.infl with trailer := t } }
  if t ≠ s1.infl.adler then failInfl .adlerMismatch s1 else .ok (setInflPhase .done s1)

/-! ## The cursor -/

/-- What stands at the cursor: the word of a wire symbol in its format, other work of the pseudocode, or the end. -/
inductive Fetch where
  | word (f : Fmt) (w : Nat) (s : State)
  | other (r : Res)
  | finished

/-- Go on fetching with a value read. -/
def Got.fetch (g : Got) (f : Nat → State → Fetch) : Fetch :=
  match g with
  | .val v s => f v s
  | .stop r => .other r

/-- FLG after CMF (R454). -/
def fetchFlg (cmf : Nat) (s : State) : Fetch := (readBits 8 s).fetch fun flg s => .word .zhdr (cmf + 256 * flg) s

/-- BTYPE after BFINAL (R455). -/
def fetchBtype (s : State) : Fetch := (readBits 2 s).fetch fun v s => .word .bhdr (s.infl.final.toNat + 2 * v) s

/-- The extra bits of code-length symbol k (R458). -/
def fetchClExtra (k : Nat) (s : State) : Fetch := (readBits (clExtraBits k) s).fetch fun e s => .word .clen (k + 32 * e) s

/-- A code-length symbol (R458): symbol 16 with nothing to repeat raises before its extra bits are read. -/
def fetchClen (s : State) : Fetch :=
  (readSym s.d2 s).fetch fun k s =>
    if k = 16 ∧ s.infl.lenseq = [] then .other (failInfl .clenRepeatNoPrev s)
    else if clExtraBits k = 0 then .word .clen k s
    else fetchClExtra k (setCont (.clExtra k) s)

/-- The extra bits of length symbol k (R460). -/
def fetchLenExtra (k : Nat) (s : State) : Fetch :=
  (readBits (lenExtra.getD (k - 257) 0) s).fetch fun e s => .word .litlen (k + 512 * e) s

/-- A literal/length symbol (R459). -/
def fetchLitlen (s : State) : Fetch :=
  (readSym s.d0 s).fetch fun k s =>
    if 257 ≤ k ∧ lenExtra.getD (k - 257) 0 ≠ 0 then fetchLenExtra k (setCont (.lenExtra k) s) else .word .litlen k s

/-- The extra bits of distance symbol e (R461). -/
def fetchDistExtra (e : Nat) (s : State) : Fetch :=
  (readBits (distExtra.getD e 0) s).fetch fun v s => .word .dist (e + 32 * v) s

/-- A distance symbol (R461). -/
def fetchDist (l : Nat) (s : State) : Fetch :=
  (readSym s.d1 s).fetch fun e s =>
    if distExtra.getD e 0 ≠ 0 then fetchDistExtra e (setCont (.distExtra l e) s) else .word .dist e s

/-- The trailer's bytes, k still to read (R463). -/
def fetchTrailer : Nat → Bytes → State → Fetch
  | 0, bs, s => .word .ztrl (leValue bs) s
  | k + 1, bs, s =>
    (readByte s).fetch fun b s =>
      let bs := bs ++ [BitVec.ofNat 8 b]
      fetchTrailer k bs (setCont (.trailer bs) s)

/-- StoredCopy, one byte, or its EndOfBlock (R456, R453). -/
def storedByte (s : State) : Res :=
  if s.infl.storedRem = 0 then .ok (endOfBlock s)
  else (readByte s).bind fun b s =>
    output (BitVec.ofNat 8 b) { s with infl := { s.infl with storedRem := s.infl.storedRem - 1 } }

/-- What stands at the cursor of BLOCK_HEADER (R455, R458). -/
def fetchHeader (s : State) : Fetch :=
  match s.infl.cont with
  | .btype => fetchBtype s
  | .stored bs => .other (storedHeader (4 - bs.length) bs s)
  | .hlit => .other (readHlit s)
  | .hdist => .other (readHdist s)
  | .hclen => .other (readHclen s)
  | .cllen i => .other (readCllen (s.infl.hclen - i) i s)
  | .clens => fetchClen s
  | .clExtra k => fetchClExtra k s
  | _ => (readBits 1 s).fetch fun v s => fetchBtype { s with infl := { s.infl with final := v == 1, cont := .btype } }

/-- What stands at the cursor of HUFFMAN_DECODE (R459-R461). -/
def fetchHuffman (s : State) : Fetch :=
  match s.infl.cont with
  | .lenExtra k => fetchLenExtra k s
  | .dist l => fetchDist l s
  | .distExtra _ e => fetchDistExtra e s
  | .copy r d => .other (copyLoop r d s)
  | _ => fetchLitlen s

/-- What stands at the decompressor's cursor (R36, R453). -/
def inflFetch (s : State) : Fetch :=
  match s.infl.phase with
  | .header =>
    match s.infl.cont with
    | .zhdr cmf => fetchFlg cmf s
    | _ => (readBits 8 s).fetch fun cmf s => fetchFlg cmf (setCont (.zhdr cmf) s)
  | .blockHeader => fetchHeader s
  | .storedCopy => .other (storedByte s)
  | .huffmanDecode => fetchHuffman s
  | .checksum =>
    match s.infl.cont with
    | .trailer bs => fetchTrailer (4 - bs.length) bs s
    | _ => fetchTrailer 4 [] (setCont (.trailer []) (inflAlign s))
  | .idle | .done | .error => .finished

/-- A word at the cursor that is no wire symbol: a zlib header whose CM is not 8 (R454). Nothing else can stand there: a table of
this block has no symbol above its alphabet (log 21). -/
def badWord (w : Nat) (e : DecodeError) (s : State) : Res :=
  match e with
  | .zlibMethod _ =>
    if (w % 256 * 256 + w / 256) % 31 ≠ 0 then failInfl .zlibFcheck s else failInfl .zlibMethod s
  | _ => failInfl .huffInvalidCode s

/-- The task `inflRes` (R451). -/
def runInflRes (s : State) : Res :=
  .ok (setRes [(0, toWord s.infl.total), (1, s.infl.consumed), (2, s.infl.adler), (3, toWord s.br.n)] s)

end Sys2Proof.Machine
end

