-- ==== Sys2Proof/Machine/Archive.lean ====
section
/-! DEFINITION. The operations of the ZIP container (48_zip_container.md): names and entries, the parse of ZIP_OPEN with its three wire
records, ItemData, and the parts of ZIP_SAVE. -/

namespace Sys2Proof.Machine

/-- A raise in a ZIP command after it has begun: both phases IDLE, the transient images dropped (60_exceptions.md R610). -/
def failZip (e : Err) (info : Nat) (s : State) : Res := .raise e (toWord info) (zipIdle s)

/-! ## Names and entries -/

/-- Separators turned to '/' (R513). -/
def slashes (n : Bytes) : Bytes := n.map (fun b => if b = 0x5C then 0x2F else b)

/-- NAME_HOOK (00_scope.md R11): what its table gives, else the identity. -/
def nameHook (p : Params) (raw : Bytes) : Bytes :=
  match p.hook.find? (fun r => r.raw == raw) with
  | none => raw
  | some r => r.name

/-- NameNorm (R513): none is ILLEGAL_NAME. -/
def nameNorm (p : Params) (raw : Bytes) : Option Bytes :=
  let n := slashes (nameHook p raw)
  if n = [] ∨ 65535 < n.length ∨ (0x3A : Byte) ∈ n then none else some n

/-- Some entry has this name. -/
def hasName (es : List Entry) (n : Bytes) : Bool := es.any (fun e => e.name == n)

/-- The index of the entry with a name, from i on. -/
def findName (n : Bytes) : Nat → List Entry → Option Nat
  | _, [] => none
  | i, e :: es => if e.name = n then some i else findName n (i + 1) es

/-- The entry that ZIP_ADD_* appends (R514). -/
def newEntry (s : State) (name : Bytes) (attr : Word) (method : Nat) (data : Bytes) : Entry :=
  { name := name, extAttr := attr, method := method, level := s.zip.defLevel, payload := data, pcomp := false
    crc := 0, csize := 0, usize := 0, loff := 0 }

/-- Append an entry unless its name exists (R502, R504): RES0 is its index. -/
def addEntry (opc : Nat) (e : Entry) (s : State) : Res :=
  if hasName s.zip.entries e.name then refuse .dupName opc s
  else .ok (setRes [(0, toWord s.zip.entries.length)] { s with zip := { s.zip with entries := s.zip.entries ++ [e] } })

/-- The pseudocode of R502 and R503 under an OPC. -/
def addItem (opc : Nat) (s : State) : Res :=
  let n := argNat s 0
  let d := argNat s 1
  let m := argNat s 3
  zipOpened opc s <|
  guardErr (decide (65535 < n) || (m != 0 && m != 8) || overInCap s (n + d)) .badArg opc s <|
  takeCounted opc (n + d) s fun b s =>
    match nameNorm s.params (b.take n) with
    | none => refuse .illegalName opc s
    | some name => addEntry opc (newEntry s name s.lat.r2 m (b.drop n)) s

/-- Replace entry i. -/
def putEntry (i : Nat) (e : Entry) (s : State) : State :=
  { s with zip := { s.zip with entries := setAt s.zip.entries i e } }

/-! ## Opening -/

/-- The w-byte little-endian value at offset o (section 3 of 48_zip_container.md), inside the image. -/
def rdLE (img : Bytes) (o w : Nat) : Nat := leValue ((img.drop o).take w)

/-- The bytes Sub(o, k), inside the image. -/
def sub (img : Bytes) (o k : Nat) : Bytes := (img.drop o).take k

/-- The offset of the first read, of a list of (offset, width), that reaches beyond the image (ZIP_RANGE). -/
def firstShort (l : Nat) : List (Nat × Nat) → Option Nat
  | [] => none
  | r :: rs => if l < r.1 + r.2 then some r.1 else firstShort l rs

/-- A position at most `k` back from p, and p itself, where the end record's signature stands: the highest (R521). -/
def scanBack (img : Bytes) : Nat → Nat → Option Nat
  | 0, p => if rdLE img p 4 = 0x06054B50 then some p else none
  | k + 1, p => if rdLE img p 4 = 0x06054B50 then some p else scanBack img k (p - 1)

/-- FindEocd (R521): none is ZIP_EOCD_NOT_FOUND. The lowest position tried is max(0, L - 22 - 65556). -/
def findEocd (img : Bytes) : Option Nat :=
  if img.length < 22 then none else scanBack img (min (img.length - 22) (Config.eocdScan - 1)) (img.length - 22)

/-- The place of the parse. -/
def setZipCont (c : ZipCont) (s : State) : State := { s with zip := { s.zip with cont := c } }

/-- The end record at the cursor (R522): the counts, the size and the offset. -/
def wireEnd (s : State) : Res :=
  match s.zip.cont with
  | .eocd p =>
    let img := s.zip.source
    if rdLE img (p + 4) 2 ≠ 0 ∨ rdLE img (p + 6) 2 ≠ 0 ∨ rdLE img (p + 8) 2 ≠ rdLE img (p + 10) 2 then
      failZip .zipMultidisk p s
    else
      let cds := rdLE img (p + 12) 4
      let cdo := rdLE img (p + 16) 4
      if p < cdo + cds then
        .raise .zipRange (Config.freeInfo s.freeCtr) { zipIdle s with freeCtr := s.freeCtr + 1 }
      else .ok { s with zip := { s.zip with list := [], cont := .dir cdo (rdLE img (p + 10) 2) } }
  | _ => .ok s

/-- A central directory record at the cursor (R522), up to LocalPayload. -/
def wireCentral (s : State) : Res :=
  match s.zip.cont with
  | .dir q (n + 1) =>
    let img := s.zip.source
    match firstShort img.length [(q + 8, 2), (q + 10, 2), (q + 16, 4), (q + 20, 4), (q + 24, 4), (q + 28, 2), (q + 30, 2),
        (q + 32, 2), (q + 38, 4), (q + 42, 4), (q + 46, rdLE img (q + 28) 2)] with
    | some o => failZip .zipRange o s
    | none =>
      let m := rdLE img (q + 10) 2
      let nl := rdLE img (q + 28) 2
      let lo := rdLE img (q + 42) 4
      let cs := rdLE img (q + 20) 4
      if rdLE img (q + 8) 2 % 2 = 1 then failZip .zipEncrypted q s
      else if m ≠ 0 ∧ m ≠ 8 then failZip .zipMethod q s
      else
        let e : Entry :=
          { name := sub img (q + 46) nl
            extAttr := toWord (rdLE img (q + 38) 4)
            method := m
            level := ctrlLevel s
            payload := []
            pcomp := m == 8
            crc := toWord (rdLE img (q + 16) 4)
            csize := toWord cs
            usize := toWord (rdLE img (q + 24) 4)
            loff := toWord lo }
        .ok (setZipCont (.loc q (q + 46 + nl + rdLE img (q + 30) 2 + rdLE img (q + 32) 2) n lo cs e) s)
  | _ => .ok s

/-- A local header at the cursor (R523), and the append of the entry (R522). -/
def wireLocal (s : State) : Res :=
  match s.zip.cont with
  | .loc q q2 n lo cs e =>
    let img := s.zip.source
    let d := lo + 30 + rdLE img (lo + 26) 2 + rdLE img (lo + 28) 2
    match firstShort img.length [(lo + 26, 2), (lo + 28, 2), (d, cs)] with
    | some o => failZip .zipRange o s
    | none =>
      if hasName s.zip.list e.name then failZip .zipDupName q s
      else
        .ok { s with zip := { s.zip with
          list := s.zip.list ++ [{ e with payload := sub img d cs }]
          cont := .dir q2 n } }
  | _ => .ok s

/-- The signature of the record at offset o of the image, in its format; beyond the image it is ZIP_RANGE. -/
def fetchRecord (f : Fmt) (o : Nat) (s : State) : Fetch :=
  if s.zip.source.length < o + 4 then .other (failZip .zipRange o s) else .word f (rdLE s.zip.source o 4) s

/-- What stands at the cursor of ZIP_OPEN's parse (R520-R523). -/
def zipFetch (s : State) : Fetch :=
  match s.zip.cont with
  | .idle => .finished
  | .scan =>
    match findEocd s.zip.source with
    | none => .other (failZip .zipEocdNotFound s.zip.source.length s)
    | some p => .other (.ok (setZipCont (.eocd p) s))
  | .eocd p => fetchRecord .eocd p s
  | .dir _ 0 => .finished
  | .dir q (_ + 1) => fetchRecord .cdh q s
  | .loc _ _ _ lo _ _ => fetchRecord .lfh lo s

/-- A word at the cursor that is not the signature looked for (R522, R523). -/
def badRecord (s : State) : Res :=
  match s.zip.cont with
  | .dir q _ => failZip .zipBadCdSig q s
  | .loc _ _ _ lo _ _ => failZip .zipBadLocalSig lo s
  | _ => failZip .zipEocdNotFound s.zip.source.length s

/-- The end of ZIP_OPEN (R520). -/
def zipOpened2 (s : State) : State :=
  setRes [(0, toWord s.zip.list.length)] { s with zip := { s.zip with
    entries := s.zip.list
    defLevel := ctrlLevel s
    isOpen := true
    source := []
    cont := .idle
    list := [] } }

/-! ## Reading an entry -/

/-- The start of an entry decode (R531): INFL_RESET's pseudocode, then raw mode from the payload. -/
def startItem (i : Nat) (push : Bool) (e : Entry) (s : State) : State :=
  let s1 := inflReset s
  { s1 with
    infl := { s1.infl with nowrap := true, src := .entry i push e.payload, phase := .blockHeader }
    zip := { s1.zip with dbuf := [] } }

/-- The end of an entry decode (R531): the CRC check, then INFL_STATE IDLE; `f` takes the entry with its decoded bytes and the
CRC. -/
def endItem (i : Nat) (e : Entry) (s : State) (f : Entry → Word → State → Res) : Res :=
  let c := crc 0 s.zip.dbuf
  if ctrlCrcCheck s && c != e.crc then failZip .crcMismatch i s
  else
    f { e with payload := s.zip.dbuf, pcomp := false } c { s with
      infl := { s.infl with phase := .idle, cont := .none, src := .input }
      zip := { s.zip with dbuf := [] } }

/-- The task `itemData` (R530, R531). -/
def runItemData (i : Nat) (s : State) : Res :=
  match s.zip.entries[i]? with
  | none => failZip .noSuchItem (cmdOpc s.latCmd) s
  | some e => endItem i e s fun e c s => .ok (setRes [(0, toWord e.payload.length), (1, c)] (putEntry i e s))

/-- The task `setLevel` (R510, R531). -/
def runSetLevel (i lv : Nat) (s : State) : Res :=
  match s.zip.entries[i]? with
  | none => failZip .noSuchItem (cmdOpc s.latCmd) s
  | some e => endItem i e s fun e _ s => .ok (putEntry i { e with level := lv } s)

/-! ## Saving -/

/-- A local header with its fields as the back-patch leaves them (R542, 30_encoding.md R175). -/
def localHeader (e : Entry) (m : Nat) : Bytes :=
  le32 0x04034B50 ++ le16 20 ++ le16 0 ++ le16 m ++ le16 0 ++ le16 0 ++ le32 e.crc.toNat ++ le32 e.csize.toNat
    ++ le32 e.usize.toNat ++ le16 e.name.length ++ le16 0 ++ e.name

/-- WriteCentral (R543, 30_encoding.md R176). -/
def centralRecord (r : Entry × Nat) : Bytes :=
  le32 0x02014B50 ++ le16 20 ++ le16 20 ++ le16 0 ++ le16 r.2 ++ le16 0 ++ le16 0 ++ le32 r.1.crc.toNat
    ++ le32 r.1.csize.toNat ++ le32 r.1.usize.toNat ++ le16 r.1.name.length ++ le16 0 ++ le16 0 ++ le16 0 ++ le16 0
    ++ le32 r.1.extAttr.toNat ++ le32 r.1.loff.toNat ++ r.1.name

/-- WriteEnd (R544, 30_encoding.md R177). -/
def endRecord (n cds cdo : Nat) : Bytes :=
  le32 0x06054B50 ++ le16 0 ++ le16 0 ++ le16 n ++ le16 n ++ le32 cds ++ le32 cdo ++ le16 0

/-- WriteLocal once the payload is known (R542, R541): method m, bytes p. -/
def writeLocal (m : Nat) (p : Bytes) (e : Entry) (rest : List Entry) (s : State) : Res :=
  let i := s.zip.recs.length
  let lo := s.zip.sink.length
  let e1 : Entry :=
    { e with
      crc := crc 0 e.payload
      csize := toWord p.length
      usize := toWord e.payload.length
      loff := toWord lo }
  let sink := s.zip.sink ++ localHeader e1 m ++ p
  if 4294967295 < p.length ∨ 4294967295 < lo ∨ 4294967295 < sink.length then failZip .zip64Needed i s
  else
    .ok { s with
      zip := { s.zip with sink := sink, recs := s.zip.recs ++ [(e1, m)], work := rest, packed := [] }
      tasks := .saveItem :: s.tasks }

/-- WriteLocal's start on an uncompressed copy (R542): the data go through the compressor, or are stored. DEFL_PARAMS stay those of
the last entry compressed (log 36). -/
def startLocal (e : Entry) (rest : List Entry) (s : State) : Res :=
  if 4294967295 < e.payload.length then failZip .zip64Needed s.zip.recs.length s
  else if e.method = 8 ∧ e.payload ≠ [] then
    let s1 := setFin (stageBytes e.payload (deflReset (mkParams e.level 0 true) s))
    .ok { s1 with
      zip := { s1.zip with packed := [], work := e :: rest }
      tasks := .deflRun :: .saveLocal 8 :: s.tasks }
  else writeLocal 0 e.payload e rest s

/-- The end of ZIP_SAVE (R540, R543-R545): the directory, the end record, the entries, then SINK to OUT. -/
def endSave (s : State) : Res :=
  let n := s.zip.recs.length
  let cdo := s.zip.sink.length
  let cd := s.zip.recs.flatMap centralRecord
  let sink := s.zip.sink ++ cd ++ endRecord n cd.length cdo
  if 4294967295 < sink.length then failZip .zip64Needed n s
  else
    .ok { s with
      defl := { s.defl with phase := .idle }
      infl := { s.infl with phase := .idle }
      zip := { s.zip with entries := s.zip.recs.map Prod.fst, sink := sink, saving := false, work := [], recs := [] }
      tasks := .push sink :: .res [(0, toWord sink.length)] :: .sinkClear :: s.tasks }

/-- The task `saveItem` (R540): the next copy is decoded if it holds compressed data, then written. -/
def runSaveItem (s : State) : Res :=
  match s.zip.work with
  | [] => endSave s
  | e :: rest =>
    if e.pcomp then
      let s1 := startItem s.zip.recs.length false e s
      .ok { s1 with tasks := .infl :: .saveDecoded :: s.tasks }
    else startLocal e rest s

/-- The task `saveDecoded` (R540, R531). -/
def runSaveDecoded (s : State) : Res :=
  match s.zip.work with
  | [] => .ok s
  | e :: rest => endItem s.zip.recs.length e s fun e _ s => startLocal e rest s

/-- The task `saveLocal` (R542): the compressed bytes are the payload. -/
def runSaveLocal (m : Nat) (s : State) : Res :=
  match s.zip.work with
  | [] => .ok s
  | e :: rest => writeLocal m s.zip.packed e rest s

/-- The task `sinkClear` (R540). -/
def runSinkClear (s : State) : Res := .ok { s with zip := { s.zip with sink := [] } }

end Sys2Proof.Machine
end

