-- ==== Sys2Proof/Machine/Engine.lean ====
section
/-! DEFINITION. The engine (00_scope.md R12, R20): the effect of each wire symbol, and the loop that runs a command's tasks until the
command completes, holds or raises. -/

namespace Sys2Proof.Machine

/-- The effect of a wire symbol on the machine; a command word is none (log 21). -/
def wire (i : Instr) (s : State) : Res :=
  match i with
  | .blockStored fin => wireStored fin s
  | .blockFixed fin => wireFixed fin s
  | .blockDynamic fin => wireDynamic fin s
  | .blockReserved fin => wireReserved fin s
  | .lit b => wireLit b s
  | .eob => wireEob s
  | .len257 => wireLen 0 0 s
  | .len258 => wireLen 1 0 s
  | .len259 => wireLen 2 0 s
  | .len260 => wireLen 3 0 s
  | .len261 => wireLen 4 0 s
  | .len262 => wireLen 5 0 s
  | .len263 => wireLen 6 0 s
  | .len264 => wireLen 7 0 s
  | .len265 e => wireLen 8 e s
  | .len266 e => wireLen 9 e s
  | .len267 e => wireLen 10 e s
  | .len268 e => wireLen 11 e s
  | .len269 e => wireLen 12 e s
  | .len270 e => wireLen 13 e s
  | .len271 e => wireLen 14 e s
  | .len272 e => wireLen 15 e s
  | .len273 e => wireLen 16 e s
  | .len274 e => wireLen 17 e s
  | .len275 e => wireLen 18 e s
  | .len276 e => wireLen 19 e s
  | .len277 e => wireLen 20 e s
  | .len278 e => wireLen 21 e s
  | .len279 e => wireLen 22 e s
  | .len280 e => wireLen 23 e s
  | .len281 e => wireLen 24 e s
  | .len282 e => wireLen 25 e s
  | .len283 e => wireLen 26 e s
  | .len284 e => wireLen 27 e s
  | .len285 => wireLen 28 0 s
  | .litlenReserved _ => wireLitlenReserved s
  | .dist0 => wireDist 0 0 s
  | .dist1 => wireDist 1 0 s
  | .dist2 => wireDist 2 0 s
  | .dist3 => wireDist 3 0 s
  | .dist4 e => wireDist 4 e s
  | .dist5 e => wireDist 5 e s
  | .dist6 e => wireDist 6 e s
  | .dist7 e => wireDist 7 e s
  | .dist8 e => wireDist 8 e s
  | .dist9 e => wireDist 9 e s
  | .dist10 e => wireDist 10 e s
  | .dist11 e => wireDist 11 e s
  | .dist12 e => wireDist 12 e s
  | .dist13 e => wireDist 13 e s
  | .dist14 e => wireDist 14 e s
  | .dist15 e => wireDist 15 e s
  | .dist16 e => wireDist 16 e s
  | .dist17 e => wireDist 17 e s
  | .dist18 e => wireDist 18 e s
  | .dist19 e => wireDist 19 e s
  | .dist20 e => wireDist 20 e s
  | .dist21 e => wireDist 21 e s
  | .dist22 e => wireDist 22 e s
  | .dist23 e => wireDist 23 e s
  | .dist24 e => wireDist 24 e s
  | .dist25 e => wireDist 25 e s
  | .dist26 e => wireDist 26 e s
  | .dist27 e => wireDist 27 e s
  | .dist28 e => wireDist 28 e s
  | .dist29 e => wireDist 29 e s
  | .distReserved _ => wireDistReserved s
  | .clLen v => wireClLen v s
  | .clRepeatPrev e => wireClPrev e s
  | .clZeroShort e => wireClZero 3 e s
  | .clZeroLong e => wireClZero 11 e s
  | .zlibHeader cinfo flg => wireZlibHeader cinfo flg s
  | .zlibTrailer t => wireZlibTrailer t s
  | .zipLocalHeader => wireLocal s
  | .zipCentralRecord => wireCentral s
  | .zipEndRecord => wireEnd s
  | _ => .ok s

/-- The wire instruction at the cursor of a running command, with the state after it is read; none where the next piece of work is
another. -/
def fetchInstr (s : State) : Option (Instr × State) :=
  let f := match s.tasks with
    | .infl :: _ => inflFetch s
    | .zipParse :: _ => zipFetch s
    | _ => .finished
  match f with
  | .word f w s =>
    match decode f w with
    | .ok i => some (i, s)
    | .error _ => none
  | _ => none

/-- One piece of work at the decompressor's cursor: a wire symbol is read and has its effect. At the end the task is done. -/
def runInfl (s : State) : Res :=
  match inflFetch s with
  | .word f w s =>
    match decode f w with
    | .ok i => wire i s
    | .error e => badWord w e s
  | .other r => r
  | .finished => .ok { s with tasks := s.tasks.tail }

/-- One piece of work of ZIP_OPEN's parse. -/
def runZipParse (s : State) : Res :=
  match zipFetch s with
  | .word f w s =>
    match decode f w with
    | .ok i => wire i s
    | .error _ => badRecord s
  | .other r => r
  | .finished => .ok (zipOpened2 { s with tasks := s.tasks.tail })

/-- One task. `infl` and `zipParse` stay at the head until they are done; every other is taken off before it runs. -/
def runTask (t : Task) (s : State) : Res :=
  let p := { s with tasks := s.tasks.tail }
  match t with
  | .pend d bs => runPend d bs p
  | .flush d => runFlush d p
  | .push bs => outPush bs p
  | .res ws => .ok (setRes ws p)
  | .infl => runInfl s
  | .inflRes => runInflRes p
  | .deflRun => runDefl p
  | .deflGo => runDeflGo p
  | .slide => runSlide p
  | .flushBlock final => runFlushBlock final p
  | .blockEnd => runBlockEnd p
  | .blockDone => runBlockDone p
  | .deflTail => runDeflTail p
  | .deflDone => runDeflDone p
  | .deflInputRes => runDeflInputRes p
  | .deflFinishRes => runDeflFinishRes p
  | .compress => runCompress p
  | .itemData i => runItemData i p
  | .setLevel i lv => runSetLevel i lv p
  | .zipParse => runZipParse s
  | .saveItem => runSaveItem p
  | .saveDecoded => runSaveDecoded p
  | .saveLocal m => runSaveLocal m p
  | .sinkClear => runSinkClear p

/-- Run the tasks, at most k of them, until the command completes, holds or raises; with none left it is complete. -/
def drive : Nat → State → State
  | 0, s =>
    match s.tasks with
    | [] => complete s
    | _ :: _ => s
  | k + 1, s =>
    match s.tasks with
    | [] => complete s
    | t :: _ =>
      match runTask t s with
      | .ok s => drive k s
      | .hold w s => { s with wait := w }
      | .raise e info s => raiseErr e info s

/-- The bytes a task carries. -/
def Task.load : Task → Nat
  | .pend _ bs => bs.length
  | .push bs => bs.length
  | _ => 0

/-- The entries with the bytes of their payloads. -/
def entriesLoad (es : List Entry) : Nat := (es.map (fun e => e.payload.length + 1)).sum

/-- The bytes INFL_SRC still has of an entry. -/
def InflSrc.load : InflSrc → Nat
  | .input => 0
  | .entry _ _ rest => rest.length

/-- How much the running command has before it: every byte, position and task that it could still work on. -/
def load (s : State) : Nat :=
  s.tasks.length + (s.tasks.map Task.load).sum + s.inq.length + s.bw.pending.length
    + s.lz.strStart + s.lz.lookahead + s.defl.stage.length + s.defl.pairs.length + s.defl.blockEnd
    + s.infl.src.load + s.infl.storedRem + s.infl.lenseq.length
    + s.zip.source.length + s.zip.sink.length + s.zip.dbuf.length + s.zip.packed.length
    + entriesLoad s.zip.entries + entriesLoad s.zip.list + entriesLoad s.zip.work

/-- Tasks enough for whatever the command has before it (log 2): a byte read is eight bits, each at most one symbol or block header;
a symbol gives at most 258 bytes; and a byte, compressed, takes at most 16 tasks, those of its block included. That is below 2^16
tasks for a byte; 2^32 for each, and for none, leaves room. -/
def budget (s : State) : Nat := 4294967296 * (load s + 1)

/-- The engine runs on until the command completes, holds or raises (00_scope.md R20). -/
def run (s : State) : State := drive (budget s) s

/-- The outcome of a command that checks and then runs the tasks it leaves (R202). -/
def launch (f : State → Res) (s : State) : Host.Outcome State Fault Refusal :=
  match f (begun s) with
  | .ok s => .next (run s)
  | .hold w s => .next { s with wait := w }
  | .raise e info s => .next (raiseErr e info s)

/-- A wire symbol's effect as an outcome: the command it belongs to goes on. -/
def finishWire (r : Res) : Host.Outcome State Fault Refusal :=
  match r with
  | .ok s => .next s
  | .hold w s => .next { s with wait := w }
  | .raise e info s => .next (raiseErr e info s)

/-- After a wire symbol: the engine runs on. -/
def runOn (o : Host.Outcome State Fault Refusal) : Host.Outcome State Fault Refusal :=
  match o with
  | .next s => if s.busy && decide (s.wait = .none) then .next (run s) else .next s
  | .fault f => .fault f
  | .refused r => .refused r

end Sys2Proof.Machine
end

