-- ==== Sys2Proof/Machine/BitReader.lean ====
section
/-! DEFINITION. The bit reader's commands (45_bitstream.md R341-R350). They never hold. -/

namespace Sys2Proof.Machine

/-- RefillNow(n) (section 4 of 45_bitstream.md). -/
def refillNow (n : Nat) (s : State) : State := brPut s ((brSrc s).refill n)

/-- Drop n bits of the reader. -/
def brDrop (n : Nat) (s : State) : State := brPut s ((brSrc s).drop n)

/-- The low n bits of the reader. -/
def brLow (n : Nat) (s : State) : Nat := (brSrc s).low n

/-- BR_PEEK n (R341). -/
def execBrPeek (n : BitVec 8) (s : State) : Host.Outcome State Fault Refusal :=
  finish (fun s => inflFree 0x60 s <|
    guardErr (decide (16 < n.toNat)) .badArg 0x60 s <|
    let s1 := refillNow n.toNat s
    if n.toNat ≤ s1.br.n then .ok (setRes [(0, toWord (brLow n.toNat s1)), (1, 0)] s1)
    else .ok (setRes [(0, 0), (1, 1)] s1)) s

/-- BR_SKIP n (R342). -/
def execBrSkip (n : BitVec 8) (s : State) : Host.Outcome State Fault Refusal :=
  finish (fun s => inflFree 0x61 s <|
    guardErr (decide (16 < n.toNat)) .badArg 0x61 s <|
    let s1 := refillNow n.toNat s
    guardErr (decide (s1.br.n < n.toNat)) .shortInput 0x61 s1 <|
    .ok (brDrop n.toNat s1)) s

/-- The alignment check of the fixed reads (R343). -/
def brAligned (opc : Nat) (s : State) (r : Res) : Res := guardErr (s.br.n % 8 != 0) .rawReadUnaligned opc s r

/-- The 16 bits of R343, with the state after them: SHORT_INPUT keeps the bytes moved into the accumulator (R610). -/
def brRead16 (opc : Nat) (s : State) (f : Nat → State → Res) : Res :=
  let s1 := refillNow 16 s
  guardErr (decide (s1.br.n < 16)) .shortInput opc s1 <| f (brLow 16 s1) (brDrop 16 s1)

/-- The two bytes of a 16-bit value swapped (R344). -/
def swap16 (v : Nat) : Nat := v % 256 * 256 + v / 256

/-- The pseudocode of R346: both halves, checked for availability first. -/
def brRead32 (opc : Nat) (s : State) (f : Nat → Nat → State → Res) : Res :=
  guardErr (decide (s.br.n + 8 * s.inq.length < 32)) .shortInput opc s <|
  brRead16 opc s fun lo s => brRead16 opc s fun hi s => f lo hi s

/-- BR_READ16_LE (R343). -/
def execBrRead16Le (s : State) : Host.Outcome State Fault Refusal :=
  finish (fun s => inflFree 0x62 s <| brAligned 0x62 s <|
    brRead16 0x62 s fun v s => .ok (setRes [(0, toWord v)] s)) s

/-- BR_READ16_BE (R344). -/
def execBrRead16Be (s : State) : Host.Outcome State Fault Refusal :=
  finish (fun s => inflFree 0x63 s <| brAligned 0x63 s <|
    brRead16 0x63 s fun v s => .ok (setRes [(0, toWord (swap16 v))] s)) s

/-- BR_READ32_LE (R346). -/
def execBrRead32Le (s : State) : Host.Outcome State Fault Refusal :=
  finish (fun s => inflFree 0x64 s <| brAligned 0x64 s <|
    brRead32 0x64 s fun lo hi s => .ok (setRes [(0, toWord (hi * 65536 + lo))] s)) s

/-- BR_READ32_BE (R347). -/
def execBrRead32Be (s : State) : Host.Outcome State Fault Refusal :=
  finish (fun s => inflFree 0x65 s <| brAligned 0x65 s <|
    brRead32 0x65 s fun lo hi s => .ok (setRes [(0, toWord (swap16 lo * 65536 + swap16 hi))] s)) s

/-- BR_ALIGN (R348, R352). -/
def execBrAlign (s : State) : Host.Outcome State Fault Refusal :=
  finish (fun s => inflFree 0x66 s <|
    .ok (setRes [(0, toWord (s.br.n % 8))] (brPut s (brSrc s).align))) s

/-- BR_RESET (R349). -/
def execBrReset (s : State) : Host.Outcome State Fault Refusal :=
  finish (fun s => inflFree 0x67 s <| .ok { s with br := Br.reset }) s

/-- BR_AVAIL (R350). -/
def execBrAvail (s : State) : Host.Outcome State Fault Refusal :=
  finish (fun s => inflFree 0x68 s <|
    .ok (setRes [(0, toWord s.br.n), (1, levelWord s.inq.length), (2, toWord s.inEnd.toNat)] s)) s

end Sys2Proof.Machine
end

