-- ==== Sys2Proof/Machine/BitWriter.lean ====
section
/-! DEFINITION. The bit writer's commands (45_bitstream.md R321-R334). -/

namespace Sys2Proof.Machine

/-- BW_WRITE_BITS n, v (R321). -/
def execBwWriteBits (n : BitVec 8) (v : BitVec 16) (s : State) : Host.Outcome State Fault Refusal :=
  launch (fun s => deflFree 0x50 s <|
    guardErr (decide (16 < n.toNat) || decide (2 ^ n.toNat ≤ v.toNat)) .badArg 0x50 s <|
    .ok (writeOps .host [.bits v.toNat n.toNat] s)) s

/-- BW_ALIGN (R332). -/
def execBwAlign (s : State) : Host.Outcome State Fault Refusal :=
  launch (fun s => deflFree 0x51 s <| .ok (writeOps .host [.align] s)) s

/-- BW_WRITE_BYTES (R333): its checks in R615's order (log 25). -/
def execBwWriteBytes (s : State) : Host.Outcome State Fault Refusal :=
  launch (fun s => deflFree 0x52 s <|
    guardErr (s.bw.n != 0) .rawWriteUnaligned 0x52 s <|
    guardErr (overInCap s (argNat s 0)) .badArg 0x52 s <|
    takeCounted 0x52 (argNat s 0) s fun b s => rawW 0x52 b s) s

/-- BW_WRITE_SHORT_LE v (R324). -/
def execBwWriteShortLe (v : BitVec 16) (s : State) : Host.Outcome State Fault Refusal :=
  launch (fun s => deflFree 0x53 s <| rawW 0x53 (le16 v.toNat) s) s

/-- BW_WRITE_SHORT_BE v (R325). -/
def execBwWriteShortBe (v : BitVec 16) (s : State) : Host.Outcome State Fault Refusal :=
  launch (fun s => deflFree 0x54 s <| rawW 0x54 (be16 v.toNat) s) s

/-- BW_WRITE_INT_LE (R326). -/
def execBwWriteIntLe (s : State) : Host.Outcome State Fault Refusal :=
  launch (fun s => deflFree 0x55 s <| rawW 0x55 (le32 (argNat s 0)) s) s

/-- BW_WRITE_INT_BE (R328). -/
def execBwWriteIntBe (s : State) : Host.Outcome State Fault Refusal :=
  launch (fun s => deflFree 0x56 s <| rawW 0x56 (be32 (argNat s 0)) s) s

/-- BW_FLUSH (R334): RES0 is |PENDING| at the start. -/
def execBwFlush (s : State) : Host.Outcome State Fault Refusal :=
  launch (fun s => deflFree 0x57 s <|
    .ok { s with tasks := [.flush .host, .res [(0, toWord s.bw.pending.length)]] }) s

/-- BW_RESET (R329). -/
def execBwReset (s : State) : Host.Outcome State Fault Refusal :=
  finish (fun s => deflFree 0x58 s <| .ok { s with bw := Bw.reset }) s

/-- BW_STATUS (R330). -/
def execBwStatus (s : State) : Host.Outcome State Fault Refusal :=
  finish (fun s => deflFree 0x59 s <|
    .ok (setRes [(0, toWord s.bw.n), (1, levelWord s.bw.pending.length), (2, s.bw.acc)] s)) s

end Sys2Proof.Machine
end

