-- ==== Sys2Proof/Machine/Checksum.lean ====
section
/-! DEFINITION. The checksum commands (42_checksums.md R222, R223, R232, R233). -/

namespace Sys2Proof.Machine

/-- ADLER_INIT (R222). -/
def execAdlerInit (s : State) : Host.Outcome State Fault Refusal :=
  finish (fun s => .ok (setRes [(0, 1)] { s with adler := 1 })) s

/-- ADLER_UPDATE (R223). -/
def execAdlerUpdate (s : State) : Host.Outcome State Fault Refusal :=
  finish (fun s =>
    guardErr (overInCap s (argNat s 0)) .badArg 0x11 s <|
    takeCounted 0x11 (argNat s 0) s fun b s =>
      let a := adler s.adler b
      .ok (setRes [(0, a)] { s with adler := a })) s

/-- CRC_INIT (R232). -/
def execCrcInit (s : State) : Host.Outcome State Fault Refusal :=
  finish (fun s => .ok (setRes [(0, 0)] { s with crc := 0 })) s

/-- CRC_UPDATE (R233). -/
def execCrcUpdate (s : State) : Host.Outcome State Fault Refusal :=
  finish (fun s =>
    guardErr (overInCap s (argNat s 0)) .badArg 0x21 s <|
    takeCounted 0x21 (argNat s 0) s fun b s =>
      let c := crc s.crc b
      .ok (setRes [(0, c)] { s with crc := c })) s

end Sys2Proof.Machine
end

