-- ==== Sys2Proof/Machine/Compressor.lean ====
section
/-! DEFINITION. The compressor's commands (46_lz77_compressor.md R376, R413-R415). -/

namespace Sys2Proof.Machine

/-- DEFL_PARAMS as LatchParams reads them (R387). -/
def ctrlParams (s : State) : DeflParams := mkParams (ctrlLevel s) (ctrlStrat s) (ctrlNowrap s)

/-- DEFL_RESET (R376). -/
def execDeflReset (s : State) : Host.Outcome State Fault Refusal :=
  finish (fun s => guardErr (ctrlBad s) .badArg 0x80 s <| .ok (deflReset (ctrlParams s) s)) s

/-- The state checks of DEFL_INPUT and DEFL_FINISH (R413, R414). -/
def deflReady (opc : Nat) (s : State) (r : Res) : Res :=
  guardErr (decide (s.defl.phase = .finished)) .streamFinished opc s <|
  guardErr (decide (s.defl.phase ≠ .filling)) .notReady opc s r

/-- DEFL_INPUT (R413). -/
def execDeflInput (s : State) : Host.Outcome State Fault Refusal :=
  launch (fun s => deflReady 0x81 s <|
    guardErr (overInCap s (argNat s 0)) .badArg 0x81 s <|
    takeCounted 0x81 (argNat s 0) s fun b s =>
      .ok { stageBytes b s with tasks := [.deflRun, .deflInputRes] }) s

/-- DEFL_FINISH (R414). -/
def execDeflFinish (s : State) : Host.Outcome State Fault Refusal :=
  launch (fun s => deflReady 0x82 s <| .ok { setFin s with tasks := [.deflRun, .deflFinishRes] }) s

/-- COMPRESS (R415); the ERRINFO of its BAD_ARG is its own OPC (log 26). -/
def execCompress (s : State) : Host.Outcome State Fault Refusal :=
  launch (fun s => guardErr (ctrlBad s) .badArg 0x83 s <|
    .ok { deflReset (ctrlParams s) s with tasks := [.compress] }) s

end Sys2Proof.Machine
end

