-- ==== Sys2Proof/Machine/Decompressor.lean ====
section
/-! DEFINITION. The decompressor's commands (47_deflate_decompressor.md R450-R452). -/

namespace Sys2Proof.Machine

/-- INFL_RESET (R450). -/
def execInflReset (s : State) : Host.Outcome State Fault Refusal := finish (fun s => .ok (inflReset s)) s

/-- INFL_RUN (R451). -/
def execInflRun (s : State) : Host.Outcome State Fault Refusal :=
  launch (fun s =>
    guardErr (decide (s.infl.phase = .done)) .streamFinished 0x91 s <|
    guardErr (decide (s.infl.phase = .idle) || decide (s.infl.phase = .error)) .notReady 0x91 s <|
    .ok { s with tasks := [.infl, .inflRes] }) s

/-- DECOMPRESS (R452). -/
def execDecompress (s : State) : Host.Outcome State Fault Refusal :=
  launch (fun s => .ok { inflReset s with tasks := [.infl, .inflRes] }) s

end Sys2Proof.Machine
end

