-- ==== Sys2Proof/Machine/HuffmanDecoder.lean ====
section
/-! DEFINITION. The Huffman decoder's commands (44_huffman_decoder.md R292-R294). -/

namespace Sys2Proof.Machine

/-- The table left unbuilt (R290, R292). -/
def unbuild (t : Sel) (s : State) : State := setTable s t { getTable s t with built := false }

/-- HDEC_BUILD t (R292). -/
def execHdecBuild (t : BitVec 8) (s : State) : Host.Outcome State Fault Refusal :=
  finish (fun s => hdecPrologue 0x40 t s fun t =>
    let n := argNat s 0
    guardErr (decide (t.size < n) || overInCap s n) .badArg 0x40 s <|
    takeCounted 0x40 n s fun b s =>
      let len := b.map BitVec.toNat
      if len.any (fun l => decide (15 < l)) then refuse .badArg 0x40 (unbuild t s)
      else match buildTable len with
        | none => refuse .huffOversubscribed 0x40 (unbuild t s)
        | some d => .ok (setRes [(0, toWord (kraft len))] (setTable s t d))) s

/-- HDEC_BUILD_FIXED t (R293). -/
def execHdecBuildFixed (t : BitVec 8) (s : State) : Host.Outcome State Fault Refusal :=
  finish (fun s => hdecPrologue 0x41 t s fun t =>
    match t with
    | .zero => .ok (setTable s .zero ⟨fixedLL, true⟩)
    | .one => .ok (setTable s .one ⟨fixedD, true⟩)
    | .two => refuse .badArg 0x41 s) s

/-- HDEC_DECODE t (R294): it never holds. -/
def execHdecDecode (t : BitVec 8) (s : State) : Host.Outcome State Fault Refusal :=
  finish (fun s => hdecPrologue 0x42 t s fun t =>
    let d := getTable s t
    guardErr (!d.built) .notBuilt 0x42 s <|
    match decodeSym d.len (brSrc s) with
    | (.sym k, b) => .ok (setRes [(0, toWord k), (1, 0)] (brPut s b))
    | (.invalid, b) => refuse .huffInvalidCode 0x42 (brPut s b)
    | (.short, b) =>
      if shortIsPrefix d.len b then .ok (setRes [(0, 0), (1, 1)] (brPut s b))
      else refuse .huffInvalidCode 0x42 (brPut s b)) s

end Sys2Proof.Machine
end

