-- ==== Sys2Proof/Machine/HuffmanEncoder.lean ====
section
/-! DEFINITION. The Huffman encoder's commands (43_huffman_encoder.md R251-R261). -/

namespace Sys2Proof.Machine

/-- HENC_RESET t (R251). -/
def execHencReset (t : BitVec 8) (s : State) : Host.Outcome State Fault Refusal :=
  finish (fun s => hencPrologue 0x30 t s fun t => .ok (setTree s t (HTree.reset t.nsym))) s

/-- HENC_RECORD t, sym (R252). -/
def execHencRecord (t : BitVec 8) (sym : BitVec 16) (s : State) : Host.Outcome State Fault Refusal :=
  finish (fun s => hencPrologue 0x31 t s fun t =>
    guardErr (decide (t.nsym ≤ sym.toNat)) .badArg 0x31 s <|
    let h := getTree s t
    .ok (setTree s t { h with freq := setAt h.freq sym.toNat (h.freq.getD sym.toNat 0 + 1) })) s

/-- HENC_BUILD_TREE t (R253, R263). -/
def execHencBuildTree (t : BitVec 8) (s : State) : Host.Outcome State Fault Refusal :=
  finish (fun s => hencPrologue 0x32 t s fun t =>
    let h := getTree s t
    match lengthsFor s.params (h.freq.map BitVec.toNat) t.maxLen with
    | none => refuse .heapInvariant 0x32 s
    | some len =>
      .ok (setRes [(0, toWord (maxLenOf len))] (setTree s t
        { h with len := len, blCount := blCounts len, tBuilt := true, cBuilt := false }))) s

/-- HENC_BUILD_CODES t (R254). -/
def execHencBuildCodes (t : BitVec 8) (s : State) : Host.Outcome State Fault Refusal :=
  finish (fun s => hencPrologue 0x33 t s fun t =>
    let h := getTree s t
    guardErr (!h.tBuilt) .notBuilt 0x33 s <|
    .ok (setTree s t { h with code := revCodes h.len, cBuilt := true })) s

/-- HENC_ENCODE t, sym (R255). -/
def execHencEncode (t : BitVec 8) (sym : BitVec 16) (s : State) : Host.Outcome State Fault Refusal :=
  launch (fun s => hencPrologue 0x34 t s fun t =>
    let h := getTree s t
    guardErr (decide (t.nsym ≤ sym.toNat)) .badArg 0x34 s <|
    guardErr (!h.cBuilt) .notBuilt 0x34 s <|
    guardErr (h.len.getD sym.toNat 0 == 0) .badArg 0x34 s <|
    .ok (writeOps .host [.bits (h.code.getD sym.toNat 0) (h.len.getD sym.toNat 0)] s)) s

/-- HENC_ESTIMATE t (R260): not refused before a build, as R260's corner case says and D63 does not (log 33). -/
def execHencEstimate (t : BitVec 8) (s : State) : Host.Outcome State Fault Refusal :=
  finish (fun s => hencPrologue 0x35 t s fun t =>
    let h := getTree s t
    .ok (setRes [(0, toWord (dot (h.freq.map BitVec.toNat) h.len))] s)) s

/-- HENC_QUERY t, sym (R261, R603). On an unbuilt tree, TBUILT = 0, R603's table raises NOT_BUILT and R261's pseudocode reads: which of
the two the block does is left free, `Config.queryRefused` (log 11). -/
def execHencQuery (t : BitVec 8) (sym : BitVec 16) (s : State) : Host.Outcome State Fault Refusal :=
  finish (fun s => hencPrologue 0x36 t s fun t =>
    let h := getTree s t
    guardErr (decide (t.nsym ≤ sym.toNat)) .badArg 0x36 s <|
    guardErr (!h.tBuilt && Config.queryRefused) .notBuilt 0x36 s <|
    .ok (setRes [(0, h.freq.getD sym.toNat 0), (1, toWord (h.len.getD sym.toNat 0)),
      (2, toWord (h.code.getD sym.toNat 0)), (3, toWord (h.blCount.getD (argNat s 0 % 16) 0))] s)) s

end Sys2Proof.Machine
end

