-- ==== Sys2Proof/Machine/MatchFinder.lean ====
section
/-! DEFINITION. The match finder's commands (46_lz77_compressor.md R372-R375). -/

namespace Sys2Proof.Machine

/-- LZ_RESET (R372). -/
def execLzReset (s : State) : Host.Outcome State Fault Refusal :=
  finish (fun s => deflFree 0x70 s <|
    guardErr (ctrlBad s) .badArg 0x70 s <| .ok (windowReset (latchParams s))) s

/-- LZ_LOAD (R373). -/
def execLzLoad (s : State) : Host.Outcome State Fault Refusal :=
  finish (fun s => deflFree 0x71 s <|
    let k := argNat s 0
    guardErr (decide (Config.winCap - s.lz.strStart - s.lz.lookahead < k) || overInCap s k) .badArg 0x71 s <|
    takeCounted 0x71 k s fun b s =>
      let z := s.lz.load b
      .ok (setRes [(0, toWord z.lookahead)] { s with lz := z })) s

/-- LZ_FIND (R374). -/
def execLzFind (s : State) : Host.Outcome State Fault Refusal :=
  finish (fun s => deflFree 0x72 s <|
    guardErr (decide (258 < argNat s 0)) .badArg 0x72 s <|
    let z := s.lz
    let cand := if 3 ≤ z.lookahead then headAt z (hash3 z z.strStart) else 0
    let r :=
      if cand ≠ 0 ∧ z.strStart - cand ≤ Config.maxDist then longest z s.defl.params z.strStart cand (argNat s 0)
      else (2, 0)
    if 3 ≤ r.1 then .ok (setRes [(0, toWord r.1), (1, toWord (z.strStart - r.2)), (2, toWord cand)] s)
    else .ok (setRes [(0, 0), (1, 0), (2, toWord cand)] s)) s

/-- LZ_ADVANCE (R375). -/
def execLzAdvance (s : State) : Host.Outcome State Fault Refusal :=
  finish (fun s => deflFree 0x73 s <|
    let n := argNat s 0
    guardErr (decide (s.lz.lookahead < n)) .badArg 0x73 s <|
    let z := advanceLoop (s.lat.r1.getLsbD 0) n s.lz
    .ok (setRes [(0, toWord z.strStart)] { s with lz := z })) s

end Sys2Proof.Machine
end

