-- ==== Sys2Proof/Machine/System.lean ====
section
/-! DEFINITION. The system commands (40_system_commands.md R200, R201). -/

namespace Sys2Proof.Machine

/-- NOP (R200). -/
def execNop (s : State) : Host.Outcome State Fault Refusal := finish .ok s

/-- RESET's pseudocode (R201, 70_reset_and_hazards.md R700): every element but CTRL, ARG, IN, IN_END and OUT; the latched words and
the model's own fields stay. -/
def softReset (s : State) : State :=
  { State.reset with
    ctrl := s.ctrl
    arg := s.arg
    inq := s.inq
    inEnd := s.inEnd
    outq := s.outq
    lat := s.lat
    latCmd := s.latCmd
    params := s.params
    host := s.host
    rdata := s.rdata
    freeCtr := s.freeCtr }

/-- RESET (R201). -/
def execReset (s : State) : Host.Outcome State Fault Refusal := finish (fun s => .ok (softReset s)) s

end Sys2Proof.Machine
end

