-- ==== Sys2Proof/Machine/WireBlock.lean ====
section
/-! DEFINITION. The wire symbols of block headers, dynamic tables and the zlib wrapper (30_encoding.md R150-R157, R163;
47_deflate_decompressor.md R454-R458, R463). -/

namespace Sys2Proof.Machine

/-- A stored block header: AlignR, LEN, NLEN, then STORED_COPY (47_deflate_decompressor.md R455, R456). -/
def execBlockStored (fin : Bool) (s : State) : Host.Outcome State Fault Refusal :=
  finishWire (wireStored fin s)

/-- A fixed block header: the fixed tables, then HUFFMAN_DECODE (R455, R457). -/
def execBlockFixed (fin : Bool) (s : State) : Host.Outcome State Fault Refusal :=
  finishWire (wireFixed fin s)

/-- A dynamic block header: the counts and the code-length code (R455, R458). -/
def execBlockDynamic (fin : Bool) (s : State) : Host.Outcome State Fault Refusal :=
  finishWire (wireDynamic fin s)

/-- Block type 3: BTYPE_RESERVED (R455). -/
def execBlockReserved (fin : Bool) (s : State) : Host.Outcome State Fault Refusal :=
  finishWire (wireReserved fin s)

/-- Code-length symbol 0-15: one code length (30_encoding.md R163, R458). -/
def execClLen (v : Nat) (s : State) : Host.Outcome State Fault Refusal :=
  finishWire (wireClLen v s)

/-- Code-length symbol 16: the previous length 3 + E times (R163, R458). -/
def execClRepeatPrev (e : Nat) (s : State) : Host.Outcome State Fault Refusal :=
  finishWire (wireClPrev e s)

/-- Code-length symbol 17: length 0, 3 + E times (R163, R458). -/
def execClZeroShort (e : Nat) (s : State) : Host.Outcome State Fault Refusal :=
  finishWire (wireClZero 3 e s)

/-- Code-length symbol 18: length 0, 11 + E times (R163, R458). -/
def execClZeroLong (e : Nat) (s : State) : Host.Outcome State Fault Refusal :=
  finishWire (wireClZero 11 e s)

/-- The zlib header (R454). -/
def execZlibHeader (cinfo : BitVec 4) (flg : Byte) (s : State) : Host.Outcome State Fault Refusal :=
  finishWire (wireZlibHeader cinfo flg s)

/-- The zlib trailer (R463). -/
def execZlibTrailer (adler : Word) (s : State) : Host.Outcome State Fault Refusal :=
  finishWire (wireZlibTrailer adler s)

end Sys2Proof.Machine
end

