-- ==== Sys2Proof/Machine/WireRecord.lean ====
section
/-! DEFINITION. The ZIP records as ZIP_OPEN reads them (48_zip_container.md R520-R523). -/

namespace Sys2Proof.Machine

/-- A local file header (30_encoding.md R175; 48_zip_container.md R523): the payload, then the entry. -/
def execZipLocalHeader (s : State) : Host.Outcome State Fault Refusal :=
  finishWire (wireLocal s)

/-- A central directory record (30_encoding.md R176; 48_zip_container.md R522). -/
def execZipCentralRecord (s : State) : Host.Outcome State Fault Refusal :=
  finishWire (wireCentral s)

/-- The end record (30_encoding.md R177; 48_zip_container.md R522). -/
def execZipEndRecord (s : State) : Host.Outcome State Fault Refusal :=
  finishWire (wireEnd s)

end Sys2Proof.Machine
end

