-- ==== Sys2Proof/Machine/WireSymbol.lean ====
section
/-! DEFINITION. The literal/length and distance symbols (30_encoding.md R160-R162; 47_deflate_decompressor.md R459-R461). -/

namespace Sys2Proof.Machine

/-- A literal byte (30_encoding.md R160; 47_deflate_decompressor.md R459, R462). -/
def execLit (b : Byte) (s : State) : Host.Outcome State Fault Refusal :=
  finishWire (wireLit b s)

/-- End of block (R459, R453). -/
def execEob (s : State) : Host.Outcome State Fault Refusal :=
  finishWire (wireEob s)

/-- Length code 257: length 3 (R161, R460). -/
def execLen257 (s : State) : Host.Outcome State Fault Refusal :=
  finishWire (wireLen 0 0 s)

/-- Length code 258: length 4 (R161, R460). -/
def execLen258 (s : State) : Host.Outcome State Fault Refusal :=
  finishWire (wireLen 1 0 s)

/-- Length code 259: length 5 (R161, R460). -/
def execLen259 (s : State) : Host.Outcome State Fault Refusal :=
  finishWire (wireLen 2 0 s)

/-- Length code 260: length 6 (R161, R460). -/
def execLen260 (s : State) : Host.Outcome State Fault Refusal :=
  finishWire (wireLen 3 0 s)

/-- Length code 261: length 7 (R161, R460). -/
def execLen261 (s : State) : Host.Outcome State Fault Refusal :=
  finishWire (wireLen 4 0 s)

/-- Length code 262: length 8 (R161, R460). -/
def execLen262 (s : State) : Host.Outcome State Fault Refusal :=
  finishWire (wireLen 5 0 s)

/-- Length code 263: length 9 (R161, R460). -/
def execLen263 (s : State) : Host.Outcome State Fault Refusal :=
  finishWire (wireLen 6 0 s)

/-- Length code 264: length 10 (R161, R460). -/
def execLen264 (s : State) : Host.Outcome State Fault Refusal :=
  finishWire (wireLen 7 0 s)

/-- Length code 265: length 11 + E (R161, R460). -/
def execLen265 (e : Nat) (s : State) : Host.Outcome State Fault Refusal :=
  finishWire (wireLen 8 e s)

/-- Length code 266: length 13 + E (R161, R460). -/
def execLen266 (e : Nat) (s : State) : Host.Outcome State Fault Refusal :=
  finishWire (wireLen 9 e s)

/-- Length code 267: length 15 + E (R161, R460). -/
def execLen267 (e : Nat) (s : State) : Host.Outcome State Fault Refusal :=
  finishWire (wireLen 10 e s)

/-- Length code 268: length 17 + E (R161, R460). -/
def execLen268 (e : Nat) (s : State) : Host.Outcome State Fault Refusal :=
  finishWire (wireLen 11 e s)

/-- Length code 269: length 19 + E (R161, R460). -/
def execLen269 (e : Nat) (s : State) : Host.Outcome State Fault Refusal :=
  finishWire (wireLen 12 e s)

/-- Length code 270: length 23 + E (R161, R460). -/
def execLen270 (e : Nat) (s : State) : Host.Outcome State Fault Refusal :=
  finishWire (wireLen 13 e s)

/-- Length code 271: length 27 + E (R161, R460). -/
def execLen271 (e : Nat) (s : State) : Host.Outcome State Fault Refusal :=
  finishWire (wireLen 14 e s)

/-- Length code 272: length 31 + E (R161, R460). -/
def execLen272 (e : Nat) (s : State) : Host.Outcome State Fault Refusal :=
  finishWire (wireLen 15 e s)

/-- Length code 273: length 35 + E (R161, R460). -/
def execLen273 (e : Nat) (s : State) : Host.Outcome State Fault Refusal :=
  finishWire (wireLen 16 e s)

/-- Length code 274: length 43 + E (R161, R460). -/
def execLen274 (e : Nat) (s : State) : Host.Outcome State Fault Refusal :=
  finishWire (wireLen 17 e s)

/-- Length code 275: length 51 + E (R161, R460). -/
def execLen275 (e : Nat) (s : State) : Host.Outcome State Fault Refusal :=
  finishWire (wireLen 18 e s)

/-- Length code 276: length 59 + E (R161, R460). -/
def execLen276 (e : Nat) (s : State) : Host.Outcome State Fault Refusal :=
  finishWire (wireLen 19 e s)

/-- Length code 277: length 67 + E (R161, R460). -/
def execLen277 (e : Nat) (s : State) : Host.Outcome State Fault Refusal :=
  finishWire (wireLen 20 e s)

/-- Length code 278: length 83 + E (R161, R460). -/
def execLen278 (e : Nat) (s : State) : Host.Outcome State Fault Refusal :=
  finishWire (wireLen 21 e s)

/-- Length code 279: length 99 + E (R161, R460). -/
def execLen279 (e : Nat) (s : State) : Host.Outcome State Fault Refusal :=
  finishWire (wireLen 22 e s)

/-- Length code 280: length 115 + E (R161, R460). -/
def execLen280 (e : Nat) (s : State) : Host.Outcome State Fault Refusal :=
  finishWire (wireLen 23 e s)

/-- Length code 281: length 131 + E (R161, R460). -/
def execLen281 (e : Nat) (s : State) : Host.Outcome State Fault Refusal :=
  finishWire (wireLen 24 e s)

/-- Length code 282: length 163 + E (R161, R460). -/
def execLen282 (e : Nat) (s : State) : Host.Outcome State Fault Refusal :=
  finishWire (wireLen 25 e s)

/-- Length code 283: length 195 + E (R161, R460). -/
def execLen283 (e : Nat) (s : State) : Host.Outcome State Fault Refusal :=
  finishWire (wireLen 26 e s)

/-- Length code 284: length 227 + E (R161, R460). -/
def execLen284 (e : Nat) (s : State) : Host.Outcome State Fault Refusal :=
  finishWire (wireLen 27 e s)

/-- Length code 285: length 258 (R161, R460). -/
def execLen285 (s : State) : Host.Outcome State Fault Refusal :=
  finishWire (wireLen 28 0 s)

/-- Symbols 286 and 287: LITLEN_RESERVED (R160, R459). -/
def execLitlenReserved (_odd : Bool) (s : State) : Host.Outcome State Fault Refusal :=
  finishWire (wireLitlenReserved s)

/-- Distance code 0: distance 1, then the copy (R162, R461). -/
def execDist0 (s : State) : Host.Outcome State Fault Refusal :=
  finishWire (wireDist 0 0 s)

/-- Distance code 1: distance 2, then the copy (R162, R461). -/
def execDist1 (s : State) : Host.Outcome State Fault Refusal :=
  finishWire (wireDist 1 0 s)

/-- Distance code 2: distance 3, then the copy (R162, R461). -/
def execDist2 (s : State) : Host.Outcome State Fault Refusal :=
  finishWire (wireDist 2 0 s)

/-- Distance code 3: distance 4, then the copy (R162, R461). -/
def execDist3 (s : State) : Host.Outcome State Fault Refusal :=
  finishWire (wireDist 3 0 s)

/-- Distance code 4: distance 5 + E, then the copy (R162, R461). -/
def execDist4 (e : Nat) (s : State) : Host.Outcome State Fault Refusal :=
  finishWire (wireDist 4 e s)

/-- Distance code 5: distance 7 + E, then the copy (R162, R461). -/
def execDist5 (e : Nat) (s : State) : Host.Outcome State Fault Refusal :=
  finishWire (wireDist 5 e s)

/-- Distance code 6: distance 9 + E, then the copy (R162, R461). -/
def execDist6 (e : Nat) (s : State) : Host.Outcome State Fault Refusal :=
  finishWire (wireDist 6 e s)

/-- Distance code 7: distance 13 + E, then the copy (R162, R461). -/
def execDist7 (e : Nat) (s : State) : Host.Outcome State Fault Refusal :=
  finishWire (wireDist 7 e s)

/-- Distance code 8: distance 17 + E, then the copy (R162, R461). -/
def execDist8 (e : Nat) (s : State) : Host.Outcome State Fault Refusal :=
  finishWire (wireDist 8 e s)

/-- Distance code 9: distance 25 + E, then the copy (R162, R461). -/
def execDist9 (e : Nat) (s : State) : Host.Outcome State Fault Refusal :=
  finishWire (wireDist 9 e s)

/-- Distance code 10: distance 33 + E, then the copy (R162, R461). -/
def execDist10 (e : Nat) (s : State) : Host.Outcome State Fault Refusal :=
  finishWire (wireDist 10 e s)

/-- Distance code 11: distance 49 + E, then the copy (R162, R461). -/
def execDist11 (e : Nat) (s : State) : Host.Outcome State Fault Refusal :=
  finishWire (wireDist 11 e s)

/-- Distance code 12: distance 65 + E, then the copy (R162, R461). -/
def execDist12 (e : Nat) (s : State) : Host.Outcome State Fault Refusal :=
  finishWire (wireDist 12 e s)

/-- Distance code 13: distance 97 + E, then the copy (R162, R461). -/
def execDist13 (e : Nat) (s : State) : Host.Outcome State Fault Refusal :=
  finishWire (wireDist 13 e s)

/-- Distance code 14: distance 129 + E, then the copy (R162, R461). -/
def execDist14 (e : Nat) (s : State) : Host.Outcome State Fault Refusal :=
  finishWire (wireDist 14 e s)

/-- Distance code 15: distance 193 + E, then the copy (R162, R461). -/
def execDist15 (e : Nat) (s : State) : Host.Outcome State Fault Refusal :=
  finishWire (wireDist 15 e s)

/-- Distance code 16: distance 257 + E, then the copy (R162, R461). -/
def execDist16 (e : Nat) (s : State) : Host.Outcome State Fault Refusal :=
  finishWire (wireDist 16 e s)

/-- Distance code 17: distance 385 + E, then the copy (R162, R461). -/
def execDist17 (e : Nat) (s : State) : Host.Outcome State Fault Refusal :=
  finishWire (wireDist 17 e s)

/-- Distance code 18: distance 513 + E, then the copy (R162, R461). -/
def execDist18 (e : Nat) (s : State) : Host.Outcome State Fault Refusal :=
  finishWire (wireDist 18 e s)

/-- Distance code 19: distance 769 + E, then the copy (R162, R461). -/
def execDist19 (e : Nat) (s : State) : Host.Outcome State Fault Refusal :=
  finishWire (wireDist 19 e s)

/-- Distance code 20: distance 1025 + E, then the copy (R162, R461). -/
def execDist20 (e : Nat) (s : State) : Host.Outcome State Fault Refusal :=
  finishWire (wireDist 20 e s)

/-- Distance code 21: distance 1537 + E, then the copy (R162, R461). -/
def execDist21 (e : Nat) (s : State) : Host.Outcome State Fault Refusal :=
  finishWire (wireDist 21 e s)

/-- Distance code 22: distance 2049 + E, then the copy (R162, R461). -/
def execDist22 (e : Nat) (s : State) : Host.Outcome State Fault Refusal :=
  finishWire (wireDist 22 e s)

/-- Distance code 23: distance 3073 + E, then the copy (R162, R461). -/
def execDist23 (e : Nat) (s : State) : Host.Outcome State Fault Refusal :=
  finishWire (wireDist 23 e s)

/-- Distance code 24: distance 4097 + E, then the copy (R162, R461). -/
def execDist24 (e : Nat) (s : State) : Host.Outcome State Fault Refusal :=
  finishWire (wireDist 24 e s)

/-- Distance code 25: distance 6145 + E, then the copy (R162, R461). -/
def execDist25 (e : Nat) (s : State) : Host.Outcome State Fault Refusal :=
  finishWire (wireDist 25 e s)

/-- Distance code 26: distance 8193 + E, then the copy (R162, R461). -/
def execDist26 (e : Nat) (s : State) : Host.Outcome State Fault Refusal :=
  finishWire (wireDist 26 e s)

/-- Distance code 27: distance 12289 + E, then the copy (R162, R461). -/
def execDist27 (e : Nat) (s : State) : Host.Outcome State Fault Refusal :=
  finishWire (wireDist 27 e s)

/-- Distance code 28: distance 16385 + E, then the copy (R162, R461). -/
def execDist28 (e : Nat) (s : State) : Host.Outcome State Fault Refusal :=
  finishWire (wireDist 28 e s)

/-- Distance code 29: distance 24577 + E, then the copy (R162, R461). -/
def execDist29 (e : Nat) (s : State) : Host.Outcome State Fault Refusal :=
  finishWire (wireDist 29 e s)

/-- Symbols 30 and 31: DIST_RESERVED (R162, R461). -/
def execDistReserved (_odd : Bool) (s : State) : Host.Outcome State Fault Refusal :=
  finishWire (wireDistReserved s)

end Sys2Proof.Machine
end

