-- ==== Sys2Proof/Machine/ZipContainer.lean ====
section
/-! DEFINITION. The ZIP container's commands (48_zip_container.md R501-R512, R520, R530, R540). -/

namespace Sys2Proof.Machine

/-- ZIP_NEW (R501). -/
def execZipNew (s : State) : Host.Outcome State Fault Refusal :=
  finish (fun s => guardErr (decide (9 < ctrlLevel s)) .badArg 0xA0 s <|
    .ok { s with zip := { s.zip with entries := [], defLevel := ctrlLevel s, isOpen := true } }) s

/-- ZIP_OPEN (R520): the old archive is discarded at issue; the hold waits for IN_END. No rule says what an image above the
2^32 - 1 bytes of R100 does: it is taken whole and parsed. DESIGN CHOICE (log 32), unsafe. -/
def execZipOpen (s : State) : Host.Outcome State Fault Refusal :=
  launch (fun s => guardErr (decide (9 < ctrlLevel s)) .badArg 0xA1 s <|
    let s1 := { s with zip := { s.zip with entries := [], isOpen := false } }
    if s.inEnd then
      .ok { s1 with inq := [], zip := { s1.zip with source := s.inq, list := [], cont := .scan }, tasks := [.zipParse] }
    else .hold .inEnd s1) s

/-- ZIP_ADD_ITEM (R502). -/
def execZipAddItem (s : State) : Host.Outcome State Fault Refusal := finish (addItem 0xA2) s

/-- ZIP_ADD_FILE (R503). -/
def execZipAddFile (s : State) : Host.Outcome State Fault Refusal := finish (addItem 0xA3) s

/-- ZIP_ADD_DIR (R504). -/
def execZipAddDir (s : State) : Host.Outcome State Fault Refusal :=
  finish (fun s => zipOpened 0xA4 s <|
    let n := argNat s 0
    guardErr (decide (65535 < n) || argNat s 1 != 0 || overInCap s n) .badArg 0xA4 s <|
    takeCounted 0xA4 n s fun b s =>
      match nameNorm s.params b with
      | none => refuse .illegalName 0xA4 s
      | some name =>
        let name := if name.getLast? = some 0x2F then name else name ++ [0x2F]
        guardErr (decide (65535 < name.length)) .illegalName 0xA4 s <|
        addEntry 0xA4 (newEntry s name s.lat.r2 0 []) s) s

/-- ZIP_UPDATE (R505). -/
def execZipUpdate (s : State) : Host.Outcome State Fault Refusal :=
  finish (fun s => zipOpened 0xA5 s <| zipItem 0xA5 (argNat s 0) s fun e =>
    guardErr (overInCap s (argNat s 1)) .badArg 0xA5 s <|
    takeCounted 0xA5 (argNat s 1) s fun b s =>
      .ok (putEntry (argNat s 0) { e with payload := b, pcomp := false, crc := 0, csize := 0, usize := 0 } s)) s

/-- ZIP_REMOVE (R506). -/
def execZipRemove (s : State) : Host.Outcome State Fault Refusal :=
  finish (fun s => zipOpened 0xA6 s <| zipItem 0xA6 (argNat s 0) s fun _ =>
    .ok { s with zip := { s.zip with entries := s.zip.entries.eraseIdx (argNat s 0) } }) s

/-- ZIP_FIND (R507). -/
def execZipFind (s : State) : Host.Outcome State Fault Refusal :=
  finish (fun s => zipOpened 0xA7 s <|
    let n := argNat s 0
    guardErr (decide (65535 < n) || overInCap s n) .badArg 0xA7 s <|
    takeCounted 0xA7 n s fun b s =>
      let r := match findName (slashes (nameHook s.params b)) 0 s.zip.entries with
        | some i => toWord i
        | none => 0xFFFFFFFF
      .ok (setRes [(0, r)] s)) s

/-- ZIP_ITEM_DATA (R530, R531): its checks in R615's order (log 25). Of an entry that is not compressed INFL_STATE is left as it was,
as ItemData's early return leaves it (log 35). RES0 and RES1 are written, as R530 says and R143's table does not (log 37). -/
def execZipItemData (s : State) : Host.Outcome State Fault Refusal :=
  launch (fun s => inflFree 0xA8 s <| zipOpened 0xA8 s <| zipItem 0xA8 (argNat s 0) s fun e =>
    if e.pcomp then
      .ok { startItem (argNat s 0) true e s with tasks := [.infl, .itemData (argNat s 0)] }
    else
      .ok { s with tasks :=
        [.push e.payload, .res [(0, toWord e.payload.length), (1, crc 0 e.payload)]] }) s

/-- ZIP_ITEM_INFO (R509). -/
def execZipItemInfo (s : State) : Host.Outcome State Fault Refusal :=
  finish (fun s => zipOpened 0xA9 s <| zipItem 0xA9 (argNat s 0) s fun e =>
    guardErr (decide (1 < argNat s 1)) .badArg 0xA9 s <|
    if argNat s 1 = 0 then
      .ok (setRes [(0, e.usize), (1, e.csize), (2, e.crc), (3, toWord (e.method ||| e.pcomp.toNat * 256))] s)
    else
      .ok (setRes [(0, e.extAttr), (1, e.loff), (2, toWord e.name.length), (3, toWord e.level)] s)) s

/-- ZIP_ITEM_NAME (R508). -/
def execZipItemName (s : State) : Host.Outcome State Fault Refusal :=
  launch (fun s => zipOpened 0xAA s <| zipItem 0xAA (argNat s 0) s fun e =>
    .ok { s with tasks := [.push e.name, .res [(0, toWord e.name.length)]] }) s

/-- ZIP_SET_ITEM_LEVEL (R510): its checks in R615's order (log 25). -/
def execZipSetItemLevel (s : State) : Host.Outcome State Fault Refusal :=
  launch (fun s => inflFree 0xAB s <| zipOpened 0xAB s <| zipItem 0xAB (argNat s 0) s fun e =>
    guardErr (decide (9 < argNat s 1)) .badArg 0xAB s <|
    if argNat s 1 ≠ e.level ∧ e.pcomp = true then
      .ok { startItem (argNat s 0) false e s with tasks := [.infl, .setLevel (argNat s 0) (argNat s 1)] }
    else .ok (putEntry (argNat s 0) { e with level := argNat s 1 } s)) s

/-- ZIP_SAVE (R540): its checks in R615's order (log 25); ZIP64_NEEDED for too many entries reports their number (log 12). -/
def execZipSave (s : State) : Host.Outcome State Fault Refusal :=
  launch (fun s => deflFree 0xAC s <| inflFree 0xAC s <| zipOpened 0xAC s <|
    if 65535 < s.zip.entries.length then failZip .zip64Needed s.zip.entries.length s
    else
      .ok { s with
        zip := { s.zip with sink := [], recs := [], packed := [], work := s.zip.entries, saving := true }
        tasks := [.saveItem] }) s

/-- ZIP_CLOSE (R511). -/
def execZipClose (s : State) : Host.Outcome State Fault Refusal :=
  finish (fun s => .ok { s with zip := { s.zip with entries := [], isOpen := false } }) s

/-- ZIP_INFO (R512). -/
def execZipInfo (s : State) : Host.Outcome State Fault Refusal :=
  finish (fun s =>
    .ok (setRes [(0, toWord s.zip.isOpen.toNat), (1, toWord s.zip.entries.length), (2, toWord s.zip.defLevel)] s)) s

end Sys2Proof.Machine
end

