-- ==== Sys2Proof/Machine/Dispatch.lean ====
section
/-! DEFINITION. One arm for each instruction, each a direct call of its meaning. -/

namespace Sys2Proof.Machine

def exec (i : Instr) (s : State) : Host.Outcome State Fault Refusal :=
  match i with
  | .nop => Sys2Proof.Machine.execNop s
  | .reset => Sys2Proof.Machine.execReset s
  | .adlerInit => Sys2Proof.Machine.execAdlerInit s
  | .adlerUpdate => Sys2Proof.Machine.execAdlerUpdate s
  | .crcInit => Sys2Proof.Machine.execCrcInit s
  | .crcUpdate => Sys2Proof.Machine.execCrcUpdate s
  | .hencReset t => Sys2Proof.Machine.execHencReset t s
  | .hencRecord t sym => Sys2Proof.Machine.execHencRecord t sym s
  | .hencBuildTree t => Sys2Proof.Machine.execHencBuildTree t s
  | .hencBuildCodes t => Sys2Proof.Machine.execHencBuildCodes t s
  | .hencEncode t sym => Sys2Proof.Machine.execHencEncode t sym s
  | .hencEstimate t => Sys2Proof.Machine.execHencEstimate t s
  | .hencQuery t sym => Sys2Proof.Machine.execHencQuery t sym s
  | .hdecBuild t => Sys2Proof.Machine.execHdecBuild t s
  | .hdecBuildFixed t => Sys2Proof.Machine.execHdecBuildFixed t s
  | .hdecDecode t => Sys2Proof.Machine.execHdecDecode t s
  | .bwWriteBits n v => Sys2Proof.Machine.execBwWriteBits n v s
  | .bwAlign => Sys2Proof.Machine.execBwAlign s
  | .bwWriteBytes => Sys2Proof.Machine.execBwWriteBytes s
  | .bwWriteShortLe v => Sys2Proof.Machine.execBwWriteShortLe v s
  | .bwWriteShortBe v => Sys2Proof.Machine.execBwWriteShortBe v s
  | .bwWriteIntLe => Sys2Proof.Machine.execBwWriteIntLe s
  | .bwWriteIntBe => Sys2Proof.Machine.execBwWriteIntBe s
  | .bwFlush => Sys2Proof.Machine.execBwFlush s
  | .bwReset => Sys2Proof.Machine.execBwReset s
  | .bwStatus => Sys2Proof.Machine.execBwStatus s
  | .brPeek n => Sys2Proof.Machine.execBrPeek n s
  | .brSkip n => Sys2Proof.Machine.execBrSkip n s
  | .brRead16Le => Sys2Proof.Machine.execBrRead16Le s
  | .brRead16Be => Sys2Proof.Machine.execBrRead16Be s
  | .brRead32Le => Sys2Proof.Machine.execBrRead32Le s
  | .brRead32Be => Sys2Proof.Machine.execBrRead32Be s
  | .brAlign => Sys2Proof.Machine.execBrAlign s
  | .brReset => Sys2Proof.Machine.execBrReset s
  | .brAvail => Sys2Proof.Machine.execBrAvail s
  | .lzReset => Sys2Proof.Machine.execLzReset s
  | .lzLoad => Sys2Proof.Machine.execLzLoad s
  | .lzFind => Sys2Proof.Machine.execLzFind s
  | .lzAdvance => Sys2Proof.Machine.execLzAdvance s
  | .deflReset => Sys2Proof.Machine.execDeflReset s
  | .deflInput => Sys2Proof.Machine.execDeflInput s
  | .deflFinish => Sys2Proof.Machine.execDeflFinish s
  | .compress => Sys2Proof.Machine.execCompress s
  | .inflReset => Sys2Proof.Machine.execInflReset s
  | .inflRun => Sys2Proof.Machine.execInflRun s
  | .decompress => Sys2Proof.Machine.execDecompress s
  | .zipNew => Sys2Proof.Machine.execZipNew s
  | .zipOpen => Sys2Proof.Machine.execZipOpen s
  | .zipAddItem => Sys2Proof.Machine.execZipAddItem s
  | .zipAddFile => Sys2Proof.Machine.execZipAddFile s
  | .zipAddDir => Sys2Proof.Machine.execZipAddDir s
  | .zipUpdate => Sys2Proof.Machine.execZipUpdate s
  | .zipRemove => Sys2Proof.Machine.execZipRemove s
  | .zipFind => Sys2Proof.Machine.execZipFind s
  | .zipItemData => Sys2Proof.Machine.execZipItemData s
  | .zipItemInfo => Sys2Proof.Machine.execZipItemInfo s
  | .zipItemName => Sys2Proof.Machine.execZipItemName s
  | .zipSetItemLevel => Sys2Proof.Machine.execZipSetItemLevel s
  | .zipSave => Sys2Proof.Machine.execZipSave s
  | .zipClose => Sys2Proof.Machine.execZipClose s
  | .zipInfo => Sys2Proof.Machine.execZipInfo s
  | .blockStored fin => Sys2Proof.Machine.execBlockStored fin s
  | .blockFixed fin => Sys2Proof.Machine.execBlockFixed fin s
  | .blockDynamic fin => Sys2Proof.Machine.execBlockDynamic fin s
  | .blockReserved fin => Sys2Proof.Machine.execBlockReserved fin s
  | .lit b => Sys2Proof.Machine.execLit b s
  | .eob => Sys2Proof.Machine.execEob s
  | .len257 => Sys2Proof.Machine.execLen257 s
  | .len258 => Sys2Proof.Machine.execLen258 s
  | .len259 => Sys2Proof.Machine.execLen259 s
  | .len260 => Sys2Proof.Machine.execLen260 s
  | .len261 => Sys2Proof.Machine.execLen261 s
  | .len262 => Sys2Proof.Machine.execLen262 s
  | .len263 => Sys2Proof.Machine.execLen263 s
  | .len264 => Sys2Proof.Machine.execLen264 s
  | .len265 e => Sys2Proof.Machine.execLen265 e s
  | .len266 e => Sys2Proof.Machine.execLen266 e s
  | .len267 e => Sys2Proof.Machine.execLen267 e s
  | .len268 e => Sys2Proof.Machine.execLen268 e s
  | .len269 e => Sys2Proof.Machine.execLen269 e s
  | .len270 e => Sys2Proof.Machine.execLen270 e s
  | .len271 e => Sys2Proof.Machine.execLen271 e s
  | .len272 e => Sys2Proof.Machine.execLen272 e s
  | .len273 e => Sys2Proof.Machine.execLen273 e s
  | .len274 e => Sys2Proof.Machine.execLen274 e s
  | .len275 e => Sys2Proof.Machine.execLen275 e s
  | .len276 e => Sys2Proof.Machine.execLen276 e s
  | .len277 e => Sys2Proof.Machine.execLen277 e s
  | .len278 e => Sys2Proof.Machine.execLen278 e s
  | .len279 e => Sys2Proof.Machine.execLen279 e s
  | .len280 e => Sys2Proof.Machine.execLen280 e s
  | .len281 e => Sys2Proof.Machine.execLen281 e s
  | .len282 e => Sys2Proof.Machine.execLen282 e s
  | .len283 e => Sys2Proof.Machine.execLen283 e s
  | .len284 e => Sys2Proof.Machine.execLen284 e s
  | .len285 => Sys2Proof.Machine.execLen285 s
  | .litlenReserved odd => Sys2Proof.Machine.execLitlenReserved odd s
  | .dist0 => Sys2Proof.Machine.execDist0 s
  | .dist1 => Sys2Proof.Machine.execDist1 s
  | .dist2 => Sys2Proof.Machine.execDist2 s
  | .dist3 => Sys2Proof.Machine.execDist3 s
  | .dist4 e => Sys2Proof.Machine.execDist4 e s
  | .dist5 e => Sys2Proof.Machine.execDist5 e s
  | .dist6 e => Sys2Proof.Machine.execDist6 e s
  | .dist7 e => Sys2Proof.Machine.execDist7 e s
  | .dist8 e => Sys2Proof.Machine.execDist8 e s
  | .dist9 e => Sys2Proof.Machine.execDist9 e s
  | .dist10 e => Sys2Proof.Machine.execDist10 e s
  | .dist11 e => Sys2Proof.Machine.execDist11 e s
  | .dist12 e => Sys2Proof.Machine.execDist12 e s
  | .dist13 e => Sys2Proof.Machine.execDist13 e s
  | .dist14 e => Sys2Proof.Machine.execDist14 e s
  | .dist15 e => Sys2Proof.Machine.execDist15 e s
  | .dist16 e => Sys2Proof.Machine.execDist16 e s
  | .dist17 e => Sys2Proof.Machine.execDist17 e s
  | .dist18 e => Sys2Proof.Machine.execDist18 e s
  | .dist19 e => Sys2Proof.Machine.execDist19 e s
  | .dist20 e => Sys2Proof.Machine.execDist20 e s
  | .dist21 e => Sys2Proof.Machine.execDist21 e s
  | .dist22 e => Sys2Proof.Machine.execDist22 e s
  | .dist23 e => Sys2Proof.Machine.execDist23 e s
  | .dist24 e => Sys2Proof.Machine.execDist24 e s
  | .dist25 e => Sys2Proof.Machine.execDist25 e s
  | .dist26 e => Sys2Proof.Machine.execDist26 e s
  | .dist27 e => Sys2Proof.Machine.execDist27 e s
  | .dist28 e => Sys2Proof.Machine.execDist28 e s
  | .dist29 e => Sys2Proof.Machine.execDist29 e s
  | .distReserved odd => Sys2Proof.Machine.execDistReserved odd s
  | .clLen v => Sys2Proof.Machine.execClLen v s
  | .clRepeatPrev e => Sys2Proof.Machine.execClRepeatPrev e s
  | .clZeroShort e => Sys2Proof.Machine.execClZeroShort e s
  | .clZeroLong e => Sys2Proof.Machine.execClZeroLong e s
  | .zlibHeader cinfo flg => Sys2Proof.Machine.execZlibHeader cinfo flg s
  | .zlibTrailer adler => Sys2Proof.Machine.execZlibTrailer adler s
  | .zipLocalHeader => Sys2Proof.Machine.execZipLocalHeader s
  | .zipCentralRecord => Sys2Proof.Machine.execZipCentralRecord s
  | .zipEndRecord => Sys2Proof.Machine.execZipEndRecord s

end Sys2Proof.Machine
end

