-- ==== Sys2Proof/Machine/HostPort.lean ====
section
/-! DEFINITION. The host's side of the block: the register file (10_state.md R30-R48, 20_memory.md R110, R114), the issue of a command
(40_system_commands.md R202) and the hardware reset (70_reset_and_hazards.md R701). -/

namespace Sys2Proof.Machine

/-- A whole aligned 32-bit access (R110); any other is reserved. -/
def wholeAccess (off : BitVec 8) (bytes : Nat) : Bool := bytes == 4 && off.toNat % 4 == 0

/-- A write to a register other than CMD (R30, R31, R40, R45, R47, R48). One write to IN_CTRL with both bits 1 flushes, then sets END
(log 17). A byte pushed into a full IN is dropped (R95, log 5). -/
def writeReg (off : BitVec 8) (v : Word) (s : State) : State :=
  match off.toNat with
  | 0x00 => if s.busy then s else { s with ctrl := v.setWidth 8 }
  | 0x14 => if s.inEnd || inFull s then s else { s with inq := s.inq ++ [v.setWidth 8] }
  | 0x18 =>
    let s1 := if v.getLsbD 1 then { s with inq := [], inEnd := false } else s
    if v.getLsbD 0 then { s1 with inEnd := true } else s1
  | 0x28 => if s.busy then s else { s with adler := v }
  | 0x2C => if s.busy then s else { s with crc := v }
  | 0x30 => if s.busy then s else { s with arg := { s.arg with r0 := v } }
  | 0x34 => if s.busy then s else { s with arg := { s.arg with r1 := v } }
  | 0x38 => if s.busy then s else { s with arg := { s.arg with r2 := v } }
  | 0x3C => if s.busy then s else { s with arg := { s.arg with r3 := v } }
  | _ => s

/-- The value of a register, for every offset (R30). -/
def readReg (off : BitVec 8) (s : State) : Word :=
  match off.toNat with
  | 0x00 => s.ctrl.setWidth 32
  | 0x08 => status s
  | 0x0C => s.errCode
  | 0x10 => s.errInfo
  | 0x18 => bitAt s.inEnd 0
  | 0x1C => levelWord s.inq.length
  | 0x20 =>
    match s.outq with
    | [] => 0
    | b :: _ => (0x100 : Word) ||| b.setWidth 32
  | 0x24 => toWord s.outq.length
  | 0x28 => s.adler
  | 0x2C => s.crc
  | 0x30 => s.arg.r0
  | 0x34 => s.arg.r1
  | 0x38 => s.arg.r2
  | 0x3C => s.arg.r3
  | 0x40 => s.res.r0
  | 0x44 => s.res.r1
  | 0x48 => s.res.r2
  | 0x4C => s.res.r3
  | _ => 0

/-- A read with its side effect: OUT_DATA pops (R46, R114). -/
def hostRead (off : BitVec 8) (bytes : Nat) (s : State) : State :=
  if wholeAccess off bytes then
    { s with rdata := readReg off s, outq := if off.toNat = 0x20 then s.outq.tail else s.outq }
  else { s with rdata := 0 }

/-- The hardware reset (R701): every element at its reset value; the parameters and the model's own fields stay. -/
def hardReset (s : State) : State :=
  { State.reset with params := s.params, host := s.host, rdata := s.rdata, freeCtr := s.freeCtr }

/-- The issue of a command (R41, R202): the report is cleared, the word and the arguments are latched, BUSY is set. -/
def issue (w : Word) (s : State) : State :=
  { s with
    err := false
    uerr := false
    drop := false
    errCode := 0
    errInfo := 0
    latCmd := w
    lat := s.arg
    busy := true
    wait := .none
    tasks := [] }

/-- A CMD write while BUSY (R41, R202). -/
def dropCmd (s : State) : State := { s with drop := true }

/-- An unassigned OPC (R144, R202). -/
def illegalCmd (s : State) : State := raiseErr .illegalCmd (toWord (cmdOpc s.latCmd)) s

/-- A host action that is a CMD write the block takes: its word. -/
def cmdWrite (a : HostAct) (s : State) : Option Word :=
  match a with
  | .write off bytes v => if wholeAccess off bytes && off.toNat == 0x04 && !s.busy then some v else none
  | .read _ _ => none
  | .hwReset => none

/-- Every other host action. -/
def hostAct (a : HostAct) (s : State) : State :=
  match a with
  | .write off bytes v =>
    if wholeAccess off bytes then (if off.toNat = 0x04 then dropCmd s else writeReg off v s) else s
  | .read off bytes => hostRead off bytes s
  | .hwReset => hardReset s

/-- The engine moves: a command runs and does not hold (R20). -/
def engineMoves (s : State) : Bool := s.busy && waitOver s

/-- The hold is over. -/
def clearWait (s : State) : State := { s with wait := .none }

/-! ## Placing one instruction where the next step runs it -/

/-- The bits of a number, the least significant first, k of them. -/
def bitsOf : Nat → Nat → List Bool
  | 0, _ => []
  | k + 1, v => (v % 2 == 1) :: bitsOf k (v / 2)

/-- A value of bits, the least significant first. -/
def bitsValue : List Bool → Nat
  | [] => 0
  | b :: bs => b.toNat + 2 * bitsValue bs

/-- Bytes from stream bits, the first bit in bit 0; the last byte is padded with zeros. -/
def bytesOf : Nat → List Bool → Bytes
  | 0, _ => []
  | k + 1, bs => if bs.isEmpty then [] else BitVec.ofNat 8 (bitsValue (bs.take 8)) :: bytesOf k (bs.drop 8)

/-- The stream bits of symbol k of a code with the given lengths, then x extra bits of value e. -/
def symbolBits (len : List Nat) (k x e : Nat) : List Bool :=
  bitsOf (len.getD k 0) ((revCodes len).getD k 0) ++ bitsOf x e

/-- The code-length code used here: 19 codes of 5 bits. -/
def flatClen : List Nat := List.replicate 19 5

/-- The state with the decompressor running from IN at a place, these bits next in the stream. -/
def placeInfl (ph : InflPhase) (c : InflCont) (bits : List Bool) (s : State) : State :=
  { s with
    busy := true
    wait := .none
    latCmd := 0x91
    tasks := [.infl, .inflRes]
    br := Br.reset
    inq := bytesOf 8 bits
    d0 := ⟨fixedLL, true⟩
    d1 := ⟨fixedD, true⟩
    d2 := ⟨flatClen, true⟩
    infl := { s.infl with phase := ph, cont := c, src := .input, hlit := 257, hdist := 1, lenseq := [] } }

/-- The state with ZIP_OPEN parsing an image at a place. -/
def placeZip (c : ZipCont) (img : Bytes) (s : State) : State :=
  { s with
    busy := true
    wait := .none
    latCmd := 0xA1
    tasks := [.zipParse]
    inEnd := true
    zip := { s.zip with source := img, cont := c, list := [] } }

/-- Zero bytes. -/
def zeros (n : Nat) : Bytes := List.replicate n 0

/-- Place a word where the next step reads an instruction of its format: a command as the host's next action, a wire symbol in the
stream or image of a running command (log 19). -/
def place (f : Fmt) (w : Nat) (s : State) : State :=
  match f with
  | .cmd => { s with busy := false, wait := .none, tasks := [], host := .write 0x04 4 (BitVec.ofNat 32 w) :: s.host }
  | .bhdr => placeInfl .blockHeader .none (bitsOf 3 w) s
  | .litlen =>
    placeInfl .huffmanDecode .none (symbolBits fixedLL (w % 512) (lenExtra.getD (w % 512 - 257) 0) (w / 512)) s
  | .dist => placeInfl .huffmanDecode (.dist 3) (symbolBits fixedD (w % 32) (distExtra.getD (w % 32) 0) (w / 32)) s
  | .clen =>
    let s1 := placeInfl .blockHeader .clens (symbolBits flatClen (w % 32) (clExtraBits (w % 32)) (w / 32)) s
    { s1 with infl := { s1.infl with lenseq := [0] } }
  | .zhdr => placeInfl .header .none (bitsOf 16 w) s
  | .ztrl => placeInfl .checksum .none (bitsOf 32 w) s
  | .eocd => placeZip (.eocd 0) (le32 w ++ zeros 18) s
  | .cdh => placeZip (.dir 30 1) (le32 0x04034B50 ++ zeros 26 ++ le32 w ++ zeros 42) s
  | .lfh =>
    placeZip (.loc 30 76 0 0 0 ⟨[], 0, 0, 0, [], false, 0, 0, 0, 0⟩) (le32 w ++ zeros 26) s

end Sys2Proof.Machine
end

