-- ==== Sys2Proof/Machine/Step.lean ====
section
/-! DEFINITION. One step (00_scope.md R12, R20): the engine if a command is running and does not hold, else the host's next action.
A command word is executed as the host writes it to CMD; a command that held before it changed anything begins again; a running
decompressor or ZIP_OPEN executes the wire symbol at its cursor and runs on (log 1, 2, 15). -/

namespace Sys2Proof.Machine

/-- A latched command is executed, or is illegal (R202). -/
def runLatched (s : State) : Host.Outcome State Fault Refusal :=
  match decodeCmd s.latCmd with
  | .ok i => exec i s
  | .error _ => .next (illegalCmd s)

/-- The engine goes on where the running command stands. -/
def resume (s : State) : Host.Outcome State Fault Refusal :=
  match s.tasks with
  | [] => runLatched s
  | _ :: _ =>
    match fetchInstr s with
    | some r => runOn (exec r.1 r.2)
    | none => .next (run s)

/-- The host's next action. -/
def hostStep (a : HostAct) (s : State) : Host.Outcome State Fault Refusal :=
  match cmdWrite a s with
  | some w => runLatched (issue w s)
  | none => .next (hostAct a s)

/-- One step. With no command moving and no host action left nothing changes. -/
def step (s : State) : Host.Outcome State Fault Refusal :=
  if engineMoves s then resume (clearWait s)
  else match s.host with
    | [] => .next s
    | a :: rest => hostStep a { s with host := rest }

/-- The state with one instruction placed where the next step runs it (log 19). -/
def State.withFetchWord (s : State) (nbits w : Nat) : State :=
  match decodeTableWord nbits w with
  | some i => if (encode i).1 = .cmd then place .cmd w s else place (encode i).1 (encode i).2 s
  | none => place .cmd w s

end Sys2Proof.Machine
end

