-- ==== Sys2Proof/Safety.lean ====
section
/-! DEFINITION. What a safe state of the block is: the invariants the spec states of its elements, in the terms the statements use.
Each is kept by every step, from any state that has it. -/

namespace Sys2Proof.Machine

/-- WIN, OWIN, HEAD and PREV are in their one canonical form (log 3). -/
def State.memOk (s : State) : Prop :=
  Memory.wf s.lz.win = true ∧ Memory.wf s.infl.owin = true ∧ Chain.wf s.lz.head = true ∧ Chain.wf s.lz.prev = true

/-- The reader: BR_N is in [0, 32) and BR_ACC[31:BR_N] is 0 (10_state.md R88). -/
def State.readerOk (s : State) : Prop := s.br.n < 32 ∧ s.br.acc.toNat < 2 ^ s.br.n

/-- OUT does not exceed OUT_CAPACITY (00_scope.md R16). -/
def State.outOk (s : State) : Prop :=
  match s.params.outCap with
  | none => True
  | some c => s.outq.length ≤ c

/-- IN does not exceed IN_CAPACITY (10_state.md R95). -/
def State.inOk (s : State) : Prop := overInCap s s.inq.length = false

/-- BW_N ≤ 7, PENDING does not exceed PENDING_CAP, OUT does not exceed OUT_CAPACITY, IN does not exceed IN_CAPACITY (10_state.md R85,
R95, 00_scope.md R16). -/
def State.buffersOk (s : State) : Prop :=
  s.bw.n ≤ 7 ∧ s.bw.pending.length ≤ Config.pendingCap ∧ s.outOk ∧ s.inOk

/-- With BUSY = 0 there is no hold and no work left (40_system_commands.md R202). -/
def State.idleOk (s : State) : Prop := s.busy = false → s.wait = .none ∧ s.tasks = []

/-- The names of a list of entries. -/
def namesOf (es : List Entry) : List Bytes := es.map Entry.name

/-- No two entries share a name (10_state.md R91): in the archive, in the list ZIP_OPEN builds, and in ZIP_SAVE's written and
unwritten entries together. -/
def State.namesOk (s : State) : Prop :=
  (namesOf s.zip.entries).Nodup ∧ (namesOf s.zip.list).Nodup ∧
    (namesOf (s.zip.recs.map Prod.fst) ++ namesOf s.zip.work).Nodup

/-! ## Terms of the statements -/

/-- The bits ahead of the reader as one number, the next stream bit its bit 0: those held in BR_ACC, then the bytes of IN
(10_state.md R88, 20_memory.md R104). -/
def bitsAhead (s : State) : Nat := s.br.acc.toNat + leValue s.inq * 2 ^ s.br.n

/-- How many bits are ahead of the reader. -/
def bitsHeld (s : State) : Nat := s.br.n + 8 * s.inq.length

/-- How many bytes the reader pops to hold m bits: the least that suffice, all of them where they do not (44_huffman_decoder.md
R295). -/
def popsFor (m : Nat) (s : State) : Nat := min ((m - s.br.n + 7) / 8) s.inq.length

/-- The state with k bytes popped from IN into the reader. -/
def popped (k : Nat) (s : State) : State :=
  { s with
    br := ⟨BitVec.ofNat 32 (s.br.acc.toNat + leValue (s.inq.take k) * 2 ^ s.br.n), s.br.n + 8 * k⟩
    inq := s.inq.drop k }

/-- The state with m bits of the reader consumed. -/
def skipped (m : Nat) (s : State) : State := { s with br := ⟨s.br.acc >>> m, s.br.n - m⟩ }

/-- The decompressor's state after it read m bits from IN: the bytes popped are the least that hold them, and INFL_CONSUMED counts
them (45_bitstream.md R340, R345, 47_deflate_decompressor.md R467). -/
def readOff (m : Nat) (s : State) : State :=
  let k := (m - s.br.n + 7) / 8
  let n := s.br.n + 8 * k - m
  { s with
    br := ⟨BitVec.ofNat 32 (bitsAhead s / 2 ^ m % 2 ^ n), n⟩
    inq := s.inq.drop k
    infl := { s.infl with consumed := s.infl.consumed + toWord k } }

/-- t is s after a completed command that wrote the n low bits of v to the bit writer (45_bitstream.md R320, R331): the bits join those
held, whole bytes leave in order for PENDING, and for OUT only where PENDING is full; everything else is as in s. -/
def BitsWritten (v n : Nat) (s t : State) : Prop :=
  ∃ (bs o p : Bytes) (acc : Word),
    t = complete { s with outq := s.outq ++ o, bw := ⟨acc, (s.bw.n + n) % 8, p⟩ } ∧
    o ++ p = s.bw.pending ++ bs ∧ bs.length = (s.bw.n + n) / 8 ∧
    leValue bs + acc.toNat * 2 ^ (8 * bs.length) = s.bw.acc.toNat + v * 2 ^ s.bw.n ∧
    acc.toNat < 2 ^ ((s.bw.n + n) % 8) ∧
    (s.bw.pending.length + bs.length ≤ Config.pendingCap → o = [])

/-- The writer as every command finds it (10_state.md R85), with room in OUT for a full PENDING. -/
def WriterReady (s : State) : Prop :=
  s.bw.n ≤ 7 ∧ s.bw.acc.toNat < 2 ^ s.bw.n ∧ s.bw.pending.length ≤ Config.pendingCap ∧
    outRoom s Config.pendingCap = Config.pendingCap

/-- A completed command that appended bytes to PENDING, which had room for them. -/
def pended (bs : Bytes) (s : State) : State := complete { s with bw := { s.bw with pending := s.bw.pending ++ bs } }

/-- The decompressor owes a match of length l its distance (47_deflate_decompressor.md R460). -/
def owes (l : Nat) (s : State) : State := { s with infl := { s.infl with cont := .dist l } }

/-- t is s after the copy of l bytes at distance d (47_deflate_decompressor.md R461, R462): each byte is the one d before it, so that
d < l repeats the last d bytes; they enter OWIN at OWPOS and go to OUT; nothing else changes. -/
def Copied (l d : Nat) (s t : State) : Prop :=
  ∃ (bs : Bytes) (owin : List Host.Cell),
    bs.length = l ∧
    (∀ k, k < l → bs.getD k 0 =
      if k < d then cellGet 0 s.infl.owin ((s.infl.owpos.toNat + 65536 + k - d) % 65536) else bs.getD (k - d) 0) ∧
    (∀ q, q < 65536 → cellGet 0 owin q =
      if (q + 65536 - s.infl.owpos.toNat) % 65536 < l then bs.getD ((q + 65536 - s.infl.owpos.toNat) % 65536) 0
      else cellGet 0 s.infl.owin q) ∧
    t = { s with
      outq := s.outq ++ bs
      infl := { s.infl with
        owin := owin
        owpos := s.infl.owpos + BitVec.ofNat 16 l
        total := s.infl.total + l
        adler := adler s.infl.adler bs
        cont := .none } }

/-- A match may be copied at distance d: the source is IN, OUT has room for it, the distance lies in what was produced. -/
def CopyReady (d : Nat) (s : State) : Prop :=
  s.infl.src = .input ∧ outRoom s (pendingLen s) = pendingLen s ∧ Memory.wf s.infl.owin = true ∧ pendingLen s ≤ 258 ∧ d ≤ s.infl.total

/-- What a raise in INFL_RUN or DECOMPRESS leaves (47_deflate_decompressor.md R465): INFL_STATE is ERROR, ERRINFO is
INFL_CONSUMED. -/
def inflRaised (e : Err) (s : State) : State :=
  raiseErr e s.infl.consumed { s with infl := { s.infl with phase := .error, cont := .none } }

/-- What a counted command does, its other checks passed, where the k bytes it asks for are not all there (30_encoding.md R146):
BAD_ARG above IN_CAPACITY, SHORT_INPUT once IN has ended, else a hold for them. -/
def CountedRefusals (i : Instr) (opc : Word) (k : Nat) (s : State) : Prop :=
  (overInCap s k = true → exec i s = .next (raiseErr .badArg opc s)) ∧
  (overInCap s k = false → s.inq.length < k → s.inEnd = true → exec i s = .next (raiseErr .shortInput opc s)) ∧
  (overInCap s k = false → s.inq.length < k → s.inEnd = false →
    exec i s = .next { s with wait := .inBytes k, tasks := [] })

/-- The lengths that code-length symbols stand for (30_encoding.md R163), after those already there. -/
def clExpand (acc : List Nat) : List ClSym → List Nat
  | [] => acc
  | q :: qs =>
    clExpand (acc ++
      if q.k ≤ 15 then [q.k]
      else if q.k = 16 then List.replicate (3 + q.v) (acc.getLast?.getD 0)
      else if q.k = 17 then List.replicate (3 + q.v) 0
      else List.replicate (11 + q.v) 0) qs

/-- CLLEN of the bits v of a dynamic header with h code-length code lengths (47_deflate_decompressor.md R458). -/
def headerCllen (v h : Nat) : List Nat :=
  (List.range 19).map (fun j => if clOrder.idxOf j < h then v / 2 ^ (14 + 3 * clOrder.idxOf j) % 8 else 0)

end Sys2Proof.Machine
end

