-- ==== Sys2Proof/Certificates/Slice0/Obligations.lean ====
section
/-! DEFINITION. The statements for the provers, one `def Obligations.<Name> : Prop` each, in the order of OBLIGATIONS.json. A statement
that formalises whole rules of spec/ is marked "stated"; the others are "derived" from the rules they name. -/

open Sys2Proof Sys2Proof.Machine

/-- For every well-formed instruction i, all 137 constructors and every operand value: decode of encode i is i. (derived: R141,
R143, R150, R152, R155, R160, R161, R162, R163, R175, R176, R177) -/
def Obligations.DecodeOfEncodeIsIdentity : Prop :=
  ∀ i : Instr, i.wellFormed = true → decode (encode i).1 (encode i).2 = .ok i

/-- For every word w that the block-header, literal/length, distance or code-length format decodes to an instruction i: i is well
formed and encode i is that format and exactly w, so no bit of the word is dropped. (derived: R155, R160, R161, R162, R163,
R164) -/
def Obligations.WireWordHasOneReading : Prop :=
  ∀ (f : Fmt) (w : Nat) (i : Instr), (f = .bhdr ∨ f = .litlen ∨ f = .dist ∨ f = .clen) → decode f w = .ok i →
    encode i = (f, w) ∧ i.wellFormed = true

/-- Command words of R180 and one word of every wire format decode to the instructions the tables give. How a wire symbol stands in
a word (the symbol in the low bits, E above it; a zlib header and trailer as they follow in the stream) is the model's choice
(log 18). (derived: R141, R143, R155, R160, R161, R162, R163, R175, R176, R177, R180) -/
def Obligations.WrittenWordsDecode : Prop :=
  decode .cmd 0x00410031 = .ok (.hencRecord 0 65) ∧ decode .cmd 0x00010234 = .ok (.hencEncode 2 1) ∧
  decode .cmd 0x12340053 = .ok (.bwWriteShortLe 0x1234) ∧ decode .cmd 0x00000460 = .ok (.brPeek 4) ∧
  decode .cmd 0x000000A1 = .ok .zipOpen ∧ decode .cmd 0xABCD1200 = .ok .nop ∧
  decode .bhdr 3 = .ok (.blockFixed true) ∧ decode .litlen 0x61 = .ok (.lit 0x61) ∧
  decode .litlen (284 + 512 * 31) = .ok (.len284 31) ∧ decode .litlen (264 + 512) = .error .bitsAbove ∧
  decode .dist (29 + 32 * 8191) = .ok (.dist29 8191) ∧ decode .dist 30 = .ok (.distReserved false) ∧
  decode .clen (18 + 32 * 127) = .ok (.clZeroLong 127) ∧ decode .zhdr 0x9C78 = .ok (.zlibHeader 7 0x9C) ∧
  decode .ztrl 0x15022C06 = .ok (.zlibTrailer 0x062C0215) ∧ decode .lfh 0x04034B50 = .ok .zipLocalHeader ∧
  decode .cdh 0x02014B50 = .ok .zipCentralRecord ∧ decode .eocd 0x06054B50 = .ok .zipEndRecord

/-- When the host writes to CMD of an idle block a word whose OPC is in one of the unassigned ranges, the step ends the command with
ERRCODE 0x440 and ERRINFO = OPC, UERR set, and changes nothing but the report, the latched words and the host's list of actions.
(stated: R144) -/
def Obligations.UnassignedOpcodeIsIllegal : Prop :=
  ∀ (s : State) (w : Word) (rest : List HostAct),
    s.busy = false → s.host = .write 0x04 4 w :: rest →
    ((0x02 ≤ cmdOpc w ∧ cmdOpc w ≤ 0x0F) ∨ (0x12 ≤ cmdOpc w ∧ cmdOpc w ≤ 0x1F) ∨ (0x22 ≤ cmdOpc w ∧ cmdOpc w ≤ 0x2F) ∨
      (0x37 ≤ cmdOpc w ∧ cmdOpc w ≤ 0x3F) ∨ (0x43 ≤ cmdOpc w ∧ cmdOpc w ≤ 0x4F) ∨ (0x5A ≤ cmdOpc w ∧ cmdOpc w ≤ 0x5F) ∨
      (0x69 ≤ cmdOpc w ∧ cmdOpc w ≤ 0x6F) ∨ (0x74 ≤ cmdOpc w ∧ cmdOpc w ≤ 0x7F) ∨ (0x84 ≤ cmdOpc w ∧ cmdOpc w ≤ 0x8F) ∨
      (0x93 ≤ cmdOpc w ∧ cmdOpc w ≤ 0x9F) ∨ 0xAF ≤ cmdOpc w) →
    step s = .next { s with
      host := rest
      latCmd := w
      lat := s.arg
      busy := false
      wait := .none
      tasks := []
      drop := false
      err := false
      uerr := true
      errCode := 0x440
      errInfo := BitVec.ofNat 32 (cmdOpc w) }

/-- When the next host action of an idle block writes to CMD a word that decodes to i, the step is exec of i on the issued state:
report cleared, word and arguments latched, BUSY set. When a command that held before changing anything may move again, the step
is exec of its latched instruction on the state with the hold cleared. (derived: R41, R202, R16) -/
def Obligations.StepRunsTheCommandWord : Prop :=
  (∀ (s : State) (w : Word) (rest : List HostAct) (i : Instr),
    s.busy = false → s.host = .write 0x04 4 w :: rest → decodeCmd w = .ok i →
    step s = exec i { s with
      host := rest
      err := false
      uerr := false
      drop := false
      errCode := 0
      errInfo := 0
      latCmd := w
      lat := s.arg
      busy := true
      wait := .none
      tasks := [] }) ∧
  (∀ (s : State) (i : Instr),
    s.busy = true → waitOver s = true → s.tasks = [] → decodeCmd s.latCmd = .ok i →
    step s = exec i { s with wait := .none })

/-- When the decompressor (or ZIP_OPEN's parse) is running and the word it reads at its cursor decodes to i, the step is exec of i
on the state after the read, and then the engine runs on until the command holds, ends or raises. The places at which a running
command can stand are the model's (log 15); the engine's run is cut after as many tasks as the bytes and tasks before the
command can need, by the model's count (log 2). (derived: R36, R453, R20) -/
def Obligations.StepRunsTheWireSymbol : Prop :=
  (∀ (s s1 : State) (ts : List Task) (f : Fmt) (w : Nat) (i : Instr),
    s.busy = true → waitOver s = true → s.tasks = .infl :: ts →
    inflFetch { s with wait := .none } = .word f w s1 → decode f w = .ok i → step s = runOn (exec i s1)) ∧
  (∀ (s s1 : State) (ts : List Task) (f : Fmt) (w : Nat) (i : Instr),
    s.busy = true → waitOver s = true → s.tasks = .zipParse :: ts →
    zipFetch { s with wait := .none } = .word f w s1 → decode f w = .ok i → step s = runOn (exec i s1)) ∧
  (∀ t : State, t.busy = true → t.wait = .none → runOn (.next t) = .next (run t)) ∧
  (∀ t : State, (t.busy = false ∨ t.wait ≠ .none) → runOn (.next t) = .next t)

/-- With the engine not moving, a host write of a whole register: CMD while BUSY only sets DROP; CTRL, ADLER, CRC and ARG0-ARG3 are
stored when idle and ignored while BUSY; IN_DATA appends a byte unless IN_END; into a full IN, which only a finite IN_CAPACITY
has, it drops the byte, which is the model's choice (log 5); IN_CTRL sets END or flushes, and with both bits 1 it flushes and
then sets END, which is the model's choice (log 17); read-only and reserved offsets ignore it. An access that is not a whole
aligned register is reserved (R110) and, by the model's choice (log 30), does nothing. Nothing else changes. (derived: R30, R31,
R40, R41, R45, R47, R48, R95, R640) -/
def Obligations.HostWritesTakeEffectAsTheRegisterMapSays : Prop :=
  (∀ (s : State) (off : BitVec 8) (v : Word) (rest : List HostAct),
    engineMoves s = false → s.host = .write off 4 v :: rest →
    (s.busy = true → off = 0x04 → step s = .next { s with host := rest, drop := true }) ∧
    (s.busy = true → off ∈ [0x00, 0x28, 0x2C, 0x30, 0x34, 0x38, 0x3C] → step s = .next { s with host := rest }) ∧
    (s.busy = false → off = 0x00 → step s = .next { s with host := rest, ctrl := v.setWidth 8 }) ∧
    (s.busy = false → off = 0x28 → step s = .next { s with host := rest, adler := v }) ∧
    (s.busy = false → off = 0x2C → step s = .next { s with host := rest, crc := v }) ∧
    (s.busy = false → off = 0x30 → step s = .next { s with host := rest, arg := { s.arg with r0 := v } }) ∧
    (s.busy = false → off = 0x34 → step s = .next { s with host := rest, arg := { s.arg with r1 := v } }) ∧
    (s.busy = false → off = 0x38 → step s = .next { s with host := rest, arg := { s.arg with r2 := v } }) ∧
    (s.busy = false → off = 0x3C → step s = .next { s with host := rest, arg := { s.arg with r3 := v } }) ∧
    (off = 0x14 → s.inEnd = false → inFull s = true → step s = .next { s with host := rest }) ∧
    (off = 0x14 → s.inEnd = false → inFull s = false → step s = .next { s with host := rest, inq := s.inq ++ [v.setWidth 8] }) ∧
    (off = 0x14 → s.inEnd = true → step s = .next { s with host := rest }) ∧
    (off = 0x18 → v.getLsbD 0 = true → v.getLsbD 1 = false → step s = .next { s with host := rest, inEnd := true }) ∧
    (off = 0x18 → v.getLsbD 0 = false → v.getLsbD 1 = true →
      step s = .next { s with host := rest, inq := [], inEnd := false }) ∧
    (off = 0x18 → v.getLsbD 0 = false → v.getLsbD 1 = false → step s = .next { s with host := rest }) ∧
    (off = 0x18 → v.getLsbD 0 = true → v.getLsbD 1 = true →
      step s = .next { s with host := rest, inq := [], inEnd := true }) ∧
    (off ∈ [0x08, 0x0C, 0x10, 0x1C, 0x20, 0x24, 0x40, 0x44, 0x48, 0x4C] → step s = .next { s with host := rest }) ∧
    (0x50 ≤ off.toNat → off.toNat % 4 = 0 → step s = .next { s with host := rest })) ∧
  (∀ (s : State) (off : BitVec 8) (n : Nat) (v : Word) (rest : List HostAct),
    engineMoves s = false → s.host = .write off n v :: rest → (n ≠ 4 ∨ off.toNat % 4 ≠ 0) →
    step s = .next { s with host := rest })

/-- With the engine not moving, a host read of a whole register returns the register's value and changes nothing else, except
OUT_DATA, which also removes the byte it returns. Write-only and reserved offsets read 0. An access that is not a whole aligned
register is reserved (R110) and, by the model's choice (log 30), reads 0 and removes nothing. (derived: R30, R33, R43, R44, R45,
R46) -/
def Obligations.HostReadsReturnTheRegister : Prop :=
  (∀ (s : State) (off : BitVec 8) (rest : List HostAct),
    engineMoves s = false → s.host = .read off 4 :: rest →
    (off = 0x00 → step s = .next { s with host := rest, rdata := s.ctrl.setWidth 32 }) ∧
    (off = 0x08 → step s = .next { s with host := rest, rdata := status s }) ∧
    (off = 0x0C → step s = .next { s with host := rest, rdata := s.errCode }) ∧
    (off = 0x10 → step s = .next { s with host := rest, rdata := s.errInfo }) ∧
    (off = 0x18 → step s = .next { s with host := rest, rdata := if s.inEnd = true then 1 else 0 }) ∧
    (off = 0x1C → step s = .next { s with host := rest, rdata := BitVec.ofNat 32 (min s.inq.length (2 ^ 32 - 1)) }) ∧
    (off = 0x20 → s.outq = [] → step s = .next { s with host := rest, rdata := 0 }) ∧
    (∀ (b : Byte) (bs : Bytes), off = 0x20 → s.outq = b :: bs →
      step s = .next { s with host := rest, rdata := BitVec.ofNat 32 (256 + b.toNat), outq := bs }) ∧
    (off = 0x24 → step s = .next { s with host := rest, rdata := BitVec.ofNat 32 s.outq.length }) ∧
    (off = 0x28 → step s = .next { s with host := rest, rdata := s.adler }) ∧
    (off = 0x2C → step s = .next { s with host := rest, rdata := s.crc }) ∧
    (off = 0x30 → step s = .next { s with host := rest, rdata := s.arg.r0 }) ∧
    (off = 0x34 → step s = .next { s with host := rest, rdata := s.arg.r1 }) ∧
    (off = 0x38 → step s = .next { s with host := rest, rdata := s.arg.r2 }) ∧
    (off = 0x3C → step s = .next { s with host := rest, rdata := s.arg.r3 }) ∧
    (off = 0x40 → step s = .next { s with host := rest, rdata := s.res.r0 }) ∧
    (off = 0x44 → step s = .next { s with host := rest, rdata := s.res.r1 }) ∧
    (off = 0x48 → step s = .next { s with host := rest, rdata := s.res.r2 }) ∧
    (off = 0x4C → step s = .next { s with host := rest, rdata := s.res.r3 }) ∧
    (off = 0x04 ∨ off = 0x14 → step s = .next { s with host := rest, rdata := 0 }) ∧
    (0x50 ≤ off.toNat → off.toNat % 4 = 0 → step s = .next { s with host := rest, rdata := 0 })) ∧
  (∀ (s : State) (off : BitVec 8) (n : Nat) (rest : List HostAct),
    engineMoves s = false → s.host = .read off n :: rest → (n ≠ 4 ∨ off.toNat % 4 ≠ 0) →
    step s = .next { s with host := rest, rdata := 0 })

/-- In every state STATUS has BUSY, ERR, UERR, WAIT_IN, WAIT_OUT, IN_END and DROP in bits 0 to 6, DEFL_STATE in 11:8, INFL_STATE in
15:12, ZIP_OPEN in bit 16, and every other bit 0. (derived: R42, R50, R70, R90) -/
def Obligations.StatusShowsEveryField : Prop :=
  ∀ s : State,
    (status s).getLsbD 0 = s.busy ∧ (status s).getLsbD 1 = s.err ∧ (status s).getLsbD 2 = s.uerr ∧
    (status s).getLsbD 3 = s.wait.isIn ∧ (status s).getLsbD 4 = s.wait.isOut ∧ (status s).getLsbD 5 = s.inEnd ∧
    (status s).getLsbD 6 = s.drop ∧ (status s).getLsbD 7 = false ∧
    ((status s).extractLsb' 8 4).toNat = s.defl.phase.code ∧ ((status s).extractLsb' 12 4).toNat = s.infl.phase.code ∧
    (status s).getLsbD 16 = s.zip.isOpen ∧ (status s).extractLsb' 17 15 = 0

/-- State.reset holds the value the spec states for every element: CTRL 0x8C, STATUS, ERRCODE and ERRINFO 0, IN and OUT empty, ADLER
1, CRC 0, ARG and RES 0, the compressor, the trees, the decompressor, the tables, the bit units and the archive as R700 lists
them. The hardware reset as a host action gives the whole of State.reset in one step, also while a command holds, whose hold it
ends. So after it WIN and OWIN, which the spec leaves unspecified, are empty and read 0 (log 3) and the latched word and
arguments are 0 (log 4): both are the model's choices. Of the model's own fields the parameters, the host's remaining actions,
the last read value and the count of free values stay; the record of the stream's input, the tasks and the places of ZIP_OPEN
and ZIP_SAVE are reset (log 5, 24, 28). That the reset takes effect between commands or in a hold is the model's choice (log
24). (derived: R700, R701) -/
def Obligations.ResetValues : Prop :=
  (let r := State.reset
  r.ctrl = 0x8C ∧ status r = 0 ∧ r.errCode = 0 ∧ r.errInfo = 0 ∧ r.inq = [] ∧ r.inEnd = false ∧ r.outq = [] ∧
  r.adler = 1 ∧ r.crc = 0 ∧ r.arg = ⟨0, 0, 0, 0⟩ ∧ r.res = ⟨0, 0, 0, 0⟩ ∧
  r.defl.phase = .idle ∧ r.lz.strStart = 1 ∧ r.lz.lookahead = 0 ∧ r.defl.blockStart = 1 ∧ r.defl.blockEnd = 1 ∧
  (∀ h, headAt r.lz h = 0) ∧ (∀ p, prevAt r.lz p = 0) ∧ r.lz.matchLen = 2 ∧ r.lz.matchStart = 0 ∧
  r.lz.matchAvail = false ∧ r.defl.pairs = [] ∧ r.defl.stage = [] ∧ r.defl.adler = 1 ∧ r.defl.outCount = 0 ∧
  r.defl.fin = false ∧ r.defl.params = mkParams 6 0 false ∧
  (∀ t : Sel, getTree r t = ⟨List.replicate t.nsym 0, List.replicate t.nsym 0, List.replicate t.nsym 0,
    List.replicate 16 0, false, false⟩) ∧
  r.infl.phase = .idle ∧ r.infl.nowrap = false ∧ r.infl.owpos = 0 ∧ r.infl.total = 0 ∧ r.infl.final = false ∧
  r.infl.btype = 0 ∧ r.infl.storedRem = 0 ∧ r.infl.hlit = 0 ∧ r.infl.hdist = 0 ∧ r.infl.hclen = 0 ∧
  r.infl.cllen = List.replicate 19 0 ∧ r.infl.lenseq = [] ∧ r.infl.adler = 1 ∧ r.infl.trailer = 0 ∧
  r.infl.consumed = 0 ∧ r.infl.src = .input ∧ r.infl.cont = .none ∧
  (∀ t : Sel, getTable r t = ⟨[], false⟩) ∧
  r.bw = ⟨0, 0, []⟩ ∧ r.br = ⟨0, 0⟩ ∧ r.zip.isOpen = false ∧ r.zip.defLevel = 6 ∧ r.zip.entries = [] ∧
  r.zip.source = [] ∧ r.zip.sink = [] ∧ r.zip.dbuf = []) ∧
  (∀ (s : State) (rest : List HostAct), engineMoves s = false → s.host = .hwReset :: rest →
    step s = .next { State.reset with params := s.params, host := rest, rdata := s.rdata, freeCtr := s.freeCtr })

/-- Every word with OPC 0 decodes to NOP, whatever N and IMM. Written to CMD of an idle block, it ends at once with ERR, UERR, DROP,
ERRCODE and ERRINFO cleared and nothing else changed but the latched words; exec of NOP itself only ends the command. (stated:
R200) -/
def Obligations.NopOnlyClearsTheReport : Prop :=
  (∀ w : Word, cmdOpc w = 0x00 → decodeCmd w = .ok .nop) ∧
  (∀ s : State, exec .nop s = .next { s with busy := false, wait := .none, tasks := [] }) ∧
  (∀ (s : State) (w : Word) (rest : List HostAct),
    s.busy = false → s.host = .write 0x04 4 w :: rest → cmdOpc w = 0x00 →
    step s = .next { s with
      host := rest
      err := false
      uerr := false
      drop := false
      errCode := 0
      errInfo := 0
      latCmd := w
      lat := s.arg
      busy := false
      wait := .none
      tasks := [] })

/-- In every state RESET completes with every element of R700 at its reset value except CTRL, ARG0-ARG3, IN, IN_END and OUT, which
keep theirs. That WIN and OWIN read as at reset afterwards is the model's choice (log 3); the latched words, the capacities and
the model's own fields stay (log 4, 5, 28). (derived: R201, R700) -/
def Obligations.ResetCommandResetsAllButHostData : Prop :=
  (∀ w : Word, cmdOpc w = 0x01 → decodeCmd w = .ok .reset) ∧
  (∀ s : State, exec .reset s = .next { State.reset with
    ctrl := s.ctrl
    arg := s.arg
    inq := s.inq
    inEnd := s.inEnd
    outq := s.outq
    lat := s.lat
    latCmd := s.latCmd
    params := s.params
    host := s.host
    rdata := s.rdata
    freeCtr := s.freeCtr })

/-- ADLER_INIT sets ADLER and RES0 to 1, CRC_INIT sets CRC and RES0 to 0. ADLER_UPDATE and CRC_UPDATE take ARG0 bytes of IN, fold
them into ADLER or CRC and put the result into RES0 too; they hold while IN is short and open, raise SHORT_INPUT when it is
short and ended, BAD_ARG above IN_CAPACITY, and change nothing else. Each opcode decodes so whatever N and IMM. (stated: R222,
R223, R232, R233) -/
def Obligations.ChecksumInitAndUpdate : Prop :=
  (∀ w : Word, cmdOpc w = 0x10 → decodeCmd w = .ok .adlerInit) ∧
  (∀ s : State, exec .adlerInit s = .next (complete { s with adler := 1, res := { s.res with r0 := 1 } })) ∧
  (∀ w : Word, cmdOpc w = 0x20 → decodeCmd w = .ok .crcInit) ∧
  (∀ s : State, exec .crcInit s = .next (complete { s with crc := 0, res := { s.res with r0 := 0 } })) ∧
  (∀ w : Word, cmdOpc w = 0x11 → decodeCmd w = .ok .adlerUpdate) ∧
  (∀ s : State,
    (overInCap s s.lat.r0.toNat = true → exec .adlerUpdate s = .next (raiseErr .badArg 0x11 s)) ∧
    (overInCap s s.lat.r0.toNat = false → s.lat.r0.toNat ≤ s.inq.length →
      exec .adlerUpdate s = .next (complete { s with
        inq := s.inq.drop s.lat.r0.toNat
        adler := adler s.adler (s.inq.take s.lat.r0.toNat)
        res := { s.res with r0 := adler s.adler (s.inq.take s.lat.r0.toNat) } })) ∧
    (overInCap s s.lat.r0.toNat = false → s.inq.length < s.lat.r0.toNat → s.inEnd = true →
      exec .adlerUpdate s = .next (raiseErr .shortInput 0x11 s)) ∧
    (overInCap s s.lat.r0.toNat = false → s.inq.length < s.lat.r0.toNat → s.inEnd = false →
      exec .adlerUpdate s = .next { s with wait := .inBytes s.lat.r0.toNat, tasks := [] })) ∧
  (∀ w : Word, cmdOpc w = 0x21 → decodeCmd w = .ok .crcUpdate) ∧
  (∀ s : State,
    (overInCap s s.lat.r0.toNat = true → exec .crcUpdate s = .next (raiseErr .badArg 0x21 s)) ∧
    (overInCap s s.lat.r0.toNat = false → s.lat.r0.toNat ≤ s.inq.length →
      exec .crcUpdate s = .next (complete { s with
        inq := s.inq.drop s.lat.r0.toNat
        crc := crc s.crc (s.inq.take s.lat.r0.toNat)
        res := { s.res with r0 := crc s.crc (s.inq.take s.lat.r0.toNat) } })) ∧
    (overInCap s s.lat.r0.toNat = false → s.inq.length < s.lat.r0.toNat → s.inEnd = true →
      exec .crcUpdate s = .next (raiseErr .shortInput 0x21 s)) ∧
    (overInCap s s.lat.r0.toNat = false → s.inq.length < s.lat.r0.toNat → s.inEnd = false →
      exec .crcUpdate s = .next { s with wait := .inBytes s.lat.r0.toNat, tasks := [] }))

/-- For every state and byte strings B and C: Adler(Adler(st, B), C) = Adler(st, B ++ C) and Crc(Crc(c, B), C) = Crc(c, B ++ C).
(stated: R221, R234) -/
def Obligations.ChecksumsAreSplitInvariant : Prop :=
  (∀ (st : Word) (b c : Bytes), adler (adler st b) c = adler st (b ++ c)) ∧
  (∀ (x : Word) (b c : Bytes), crc (crc x b) c = crc x (b ++ c))

/-- For a non-empty byte string, the low half of Adler(st, b) is (s1 + the sum of the bytes) mod 65521, the high half is (s2 + k s1
+ the sum of (k - i) times byte i) mod 65521, and both are below 65521; for the empty string the state is returned as it is.
(derived: R220) -/
def Obligations.AdlerSumsModulo65521 : Prop :=
  (∀ st : Word, adler st [] = st) ∧
  (∀ (st : Word) (bs : Bytes), bs ≠ [] →
    ((adler st bs).extractLsb' 0 16).toNat
      = ((st.extractLsb' 0 16).toNat + (bs.map BitVec.toNat).sum) % 65521 ∧
    ((adler st bs).extractLsb' 16 16).toNat
      = ((st.extractLsb' 16 16).toNat + bs.length * (st.extractLsb' 0 16).toNat
          + ((List.range bs.length).map (fun i => (bs.length - i) * (bs.getD i 0).toNat)).sum) % 65521)

/-- With the compressor inactive and N naming tree t: HENC_RESET clears exactly tree t; HENC_RECORD of a symbol below NSYM adds 1 to
its frequency mod 2^32 and nothing else; HENC_ESTIMATE puts the sum of frequency times length mod 2^32 into RES0; HENC_QUERY of
a built tree reads FREQ, LEN, CODE and BLCOUNT into RES0-RES3; of an unbuilt tree it raises NOT_BUILT, as R603 says, or reads
too, as R261's pseudocode does, and which of the two is a free value (log 11). A symbol at or above NSYM is BAD_ARG, and so is N
above 2. That HENC_ESTIMATE runs on a tree not yet built follows R260, where D63 says otherwise (log 33). (derived: R145, R251,
R252, R260, R261, R603) -/
def Obligations.EncoderTreeRegisters : Prop :=
  (∀ (s : State) (t : BitVec 8) (k : Sel), selOf t = some k → s.defl.phase.active = false →
    (exec (.hencReset t) s = .next (complete (setTree s k ⟨List.replicate k.nsym 0, List.replicate k.nsym 0,
      List.replicate k.nsym 0, List.replicate 16 0, false, false⟩))) ∧
    (exec (.hencEstimate t) s = .next (complete { s with res := { s.res with
      r0 := BitVec.ofNat 32 (dot ((getTree s k).freq.map BitVec.toNat) (getTree s k).len) } })) ∧
    (∀ sym : BitVec 16, sym.toNat < k.nsym →
      exec (.hencRecord t sym) s = .next (complete (setTree s k { getTree s k with
        freq := setAt (getTree s k).freq sym.toNat ((getTree s k).freq.getD sym.toNat 0 + 1) })) ∧
      (let read := complete { s with res := ⟨(getTree s k).freq.getD sym.toNat 0,
          BitVec.ofNat 32 ((getTree s k).len.getD sym.toNat 0), BitVec.ofNat 32 ((getTree s k).code.getD sym.toNat 0),
          BitVec.ofNat 32 ((getTree s k).blCount.getD (s.lat.r0.toNat % 16) 0)⟩ };
        ((getTree s k).tBuilt = true → exec (.hencQuery t sym) s = .next read) ∧
        ((getTree s k).tBuilt = false → exec (.hencQuery t sym) s = .next
          (if Config.queryRefused = true then raiseErr .notBuilt 0x36 s else read)))) ∧
    (∀ sym : BitVec 16, k.nsym ≤ sym.toNat →
      exec (.hencRecord t sym) s = .next (raiseErr .badArg 0x31 s) ∧
      exec (.hencQuery t sym) s = .next (raiseErr .badArg 0x36 s))) ∧
  (∀ (s : State) (t : BitVec 8) (sym : BitVec 16), 2 < t.toNat → s.defl.phase.active = false →
    exec (.hencReset t) s = .next (raiseErr .badArg 0x30 s) ∧ exec (.hencRecord t sym) s = .next (raiseErr .badArg 0x31 s) ∧
    exec (.hencEstimate t) s = .next (raiseErr .badArg 0x35 s) ∧ exec (.hencQuery t sym) s = .next (raiseErr .badArg 0x36 s))

/-- With the compressor inactive and N naming tree t: where HUFF_LENGTHS gives a list, HENC_BUILD_TREE completes with LEN that list,
BLCOUNT its counts, TBUILT set, CBUILT cleared, RES0 the longest length, and CODE as it was; where it fails, HEAP_INVARIANT is
raised. HUFF_LENGTHS is a parameter of R11, the model's table over the reference (log 7); with an empty table it is the
reference and never fails. HENC_BUILD_CODES on a built tree writes the reversed canonical codes and sets CBUILT; on an unbuilt
tree it raises NOT_BUILT. N above 2 is BAD_ARG. (derived: R11, R145, R253, R254, R256, R262, R263) -/
def Obligations.EncoderBuildsTreesAndCodes : Prop :=
  (∀ (s : State) (t : BitVec 8) (k : Sel), selOf t = some k → s.defl.phase.active = false →
    let freq := (getTree s k).freq.map BitVec.toNat
    (∀ len : List Nat, lengthsFor s.params freq k.maxLen = some len →
      exec (.hencBuildTree t) s = .next (complete { setTree s k { getTree s k with
        len := len
        blCount := 0 :: (List.range 15).map (fun l => len.count (l + 1))
        tBuilt := true
        cBuilt := false } with res := { s.res with r0 := BitVec.ofNat 32 (len.foldl max 0) } })) ∧
    (lengthsFor s.params freq k.maxLen = none → exec (.hencBuildTree t) s = .next (raiseErr .heapInvariant 0x32 s)) ∧
    (s.params.lengths = [] → ∃ len : List Nat, huffLengths freq k.maxLen = some len ∧
      lengthsFor s.params freq k.maxLen = some len) ∧
    ((getTree s k).tBuilt = true → exec (.hencBuildCodes t) s = .next (complete (setTree s k { getTree s k with
      code := revCodes (getTree s k).len
      cBuilt := true }))) ∧
    ((getTree s k).tBuilt = false → exec (.hencBuildCodes t) s = .next (raiseErr .notBuilt 0x33 s))) ∧
  (∀ (s : State) (t : BitVec 8), 2 < t.toNat → s.defl.phase.active = false →
    exec (.hencBuildTree t) s = .next (raiseErr .badArg 0x32 s) ∧ exec (.hencBuildCodes t) s = .next (raiseErr .badArg 0x33 s))

/-- With the compressor inactive, codes built, a symbol below NSYM with a length from 1 to 16 and a code of that width, HENC_ENCODE
completes with exactly those bits written to the bit writer and nothing else changed. A symbol with length 0 or at or above NSYM
is BAD_ARG, a tree without codes is NOT_BUILT, and N above 2 is BAD_ARG. (derived: R145, R255, R320) -/
def Obligations.EncodeWritesTheSymbolsCode : Prop :=
  (∀ (s : State) (t : BitVec 8) (k : Sel) (sym : BitVec 16), selOf t = some k → s.defl.phase.active = false →
    (sym.toNat < k.nsym → (getTree s k).cBuilt = true → 0 < (getTree s k).len.getD sym.toNat 0 →
      (getTree s k).len.getD sym.toNat 0 ≤ 16 →
      (getTree s k).code.getD sym.toNat 0 < 2 ^ (getTree s k).len.getD sym.toNat 0 → WriterReady s →
      ∃ t1, exec (.hencEncode t sym) s = .next t1 ∧
        BitsWritten ((getTree s k).code.getD sym.toNat 0) ((getTree s k).len.getD sym.toNat 0) s t1) ∧
    (k.nsym ≤ sym.toNat → exec (.hencEncode t sym) s = .next (raiseErr .badArg 0x34 s)) ∧
    (sym.toNat < k.nsym → (getTree s k).cBuilt = false → exec (.hencEncode t sym) s = .next (raiseErr .notBuilt 0x34 s)) ∧
    (sym.toNat < k.nsym → (getTree s k).cBuilt = true → (getTree s k).len.getD sym.toNat 0 = 0 →
      exec (.hencEncode t sym) s = .next (raiseErr .badArg 0x34 s))) ∧
  (∀ (s : State) (t : BitVec 8) (sym : BitVec 16), 2 < t.toNat → s.defl.phase.active = false →
    exec (.hencEncode t sym) s = .next (raiseErr .badArg 0x34 s))

/-- For every frequency list with at least two used symbols, and a limit m from 1 to 15 with no more than 2^m used symbols: the
reference assignment exists, and whatever the parameter HUFF_LENGTHS gives, the reference or a row of its table (log 7), has a
length for exactly the used symbols, none above m, and Kraft sum exactly 2^15. (derived: R11, R250, R256, R258, R259) -/
def Obligations.LengthAssignmentIsCompleteAndLimited : Prop :=
  ∀ (freq : List Nat) (m : Nat), 1 ≤ m → m ≤ 15 → 2 ≤ freq.countP (fun f => decide (0 < f)) →
    freq.countP (fun f => decide (0 < f)) ≤ 2 ^ m →
    (huffLengths freq m).isSome = true ∧
    (∀ (p : Params) (len : List Nat), lengthsFor p freq m = some len → len.length = freq.length ∧
      (∀ s, len.getD s 0 ≤ m) ∧ (∀ s, 0 < len.getD s 0 ↔ 0 < freq.getD s 0) ∧ kraft len = 32768)

/-- With no used symbol, symbols 0 and 1 get length 1 and all others 0. With exactly one used symbol u, u and the lowest other
symbol get length 1 and all others 0. (stated: R257) -/
def Obligations.DegenerateTreesHaveTwoSymbols : Prop :=
  ∀ (freq : List Nat) (m : Nat), 2 ≤ freq.length →
    ((∀ s, freq.getD s 0 = 0) →
      huffLengths freq m = some ((List.range freq.length).map (fun s => if s < 2 then 1 else 0))) ∧
    (∀ u, 0 < freq.getD u 0 → (∀ s, s ≠ u → freq.getD s 0 = 0) →
      huffLengths freq m = some ((List.range freq.length).map
        (fun s => if s = u ∨ s = (if u = 0 then 1 else 0) then 1 else 0)))

/-- For every length list with lengths up to 15 and Kraft sum at most 2^15, every canonical code is below 2 to its length, and no
used symbol's code is a prefix of another's. (derived: R214, R215) -/
def Obligations.CanonicalCodesArePrefixFree : Prop :=
  ∀ len : List Nat, (∀ l ∈ len, l ≤ 15) → kraft len ≤ 32768 →
    (∀ s, 0 < len.getD s 0 → (canon len).getD s 0 < 2 ^ len.getD s 0) ∧
    (∀ s u, s ≠ u → 0 < len.getD s 0 → len.getD s 0 ≤ len.getD u 0 →
      (canon len).getD u 0 / 2 ^ (len.getD u 0 - len.getD s 0) ≠ (canon len).getD s 0)

/-- With the decompressor inactive and N naming table t: HDEC_BUILD with ARG0 = n up to the table size and n bytes in IN takes them;
lengths up to 15 with Kraft sum at most 2^15 become the table and RES0 the sum; an oversubscribed list or a byte above 15 leaves
the table unbuilt with the bytes consumed and raises. n above the size is BAD_ARG. With too few bytes it holds or raises
SHORT_INPUT, above IN_CAPACITY BAD_ARG. HDEC_BUILD_FIXED loads the fixed list of table 0 or 1. N above 2 is BAD_ARG. (derived:
R145, R146, R290, R292, R293, R212, R213) -/
def Obligations.DecoderBuildsTables : Prop :=
  (∀ (s : State) (t : BitVec 8) (k : Sel), selOf t = some k → s.infl.phase.active = false →
    (let n := s.lat.r0.toNat
     let len := (s.inq.take n).map BitVec.toNat
     let s1 := { s with inq := s.inq.drop n }
     (n ≤ k.size → overInCap s n = false → n ≤ s.inq.length → (∀ l ∈ len, l ≤ 15) → kraft len ≤ 32768 →
       exec (.hdecBuild t) s = .next (complete { setTable s1 k ⟨len, true⟩ with
         res := { s.res with r0 := BitVec.ofNat 32 (kraft len) } })) ∧
     (n ≤ k.size → overInCap s n = false → n ≤ s.inq.length → (∀ l ∈ len, l ≤ 15) → 32768 < kraft len →
       exec (.hdecBuild t) s = .next (raiseErr .huffOversubscribed 0x40
         (setTable s1 k { getTable s k with built := false }))) ∧
     (n ≤ k.size → overInCap s n = false → n ≤ s.inq.length → (∃ l ∈ len, 15 < l) →
       exec (.hdecBuild t) s = .next (raiseErr .badArg 0x40 (setTable s1 k { getTable s k with built := false }))) ∧
     (n ≤ k.size → CountedRefusals (.hdecBuild t) 0x40 n s) ∧
     (k.size < n → exec (.hdecBuild t) s = .next (raiseErr .badArg 0x40 s))) ∧
    (k = .zero → exec (.hdecBuildFixed t) s = .next (complete { s with
      d0 := ⟨List.replicate 144 8 ++ List.replicate 112 9 ++ List.replicate 24 7 ++ List.replicate 8 8, true⟩ })) ∧
    (k = .one → exec (.hdecBuildFixed t) s = .next (complete { s with d1 := ⟨List.replicate 32 5, true⟩ })) ∧
    (k = .two → exec (.hdecBuildFixed t) s = .next (raiseErr .badArg 0x41 s))) ∧
  (∀ (s : State) (t : BitVec 8), 2 < t.toNat → s.infl.phase.active = false →
    exec (.hdecBuild t) s = .next (raiseErr .badArg 0x40 s) ∧ exec (.hdecBuildFixed t) s = .next (raiseErr .badArg 0x41 s))

/-- With the decompressor inactive, N naming a built table: when Decode finds a symbol, RES0 is it, RES1 is 0 and its bits are
consumed; when the bits are a proper prefix of a code, RES0 is 0, RES1 is 1 and the popped bytes stay in the accumulator;
otherwise HUFF_INVALID_CODE is raised and no bit is consumed. An unbuilt table is NOT_BUILT, and N above 2 is BAD_ARG. (derived:
R145, R294, R295) -/
def Obligations.DecodeCommandReadsOneSymbol : Prop :=
  (∀ (s : State) (t : BitVec 8) (k : Sel), selOf t = some k → s.infl.phase.active = false →
    ((getTable s k).built = true → ∀ (y : Nat) (b : BitSrc),
      decodeSym (getTable s k).len ⟨s.br.acc, s.br.n, s.inq, 0⟩ = (.sym y, b) →
      exec (.hdecDecode t) s = .next (complete { s with
        br := ⟨b.acc, b.n⟩, inq := b.bytes, res := { s.res with r0 := BitVec.ofNat 32 y, r1 := 0 } })) ∧
    ((getTable s k).built = true → ∀ b : BitSrc,
      decodeSym (getTable s k).len ⟨s.br.acc, s.br.n, s.inq, 0⟩ = (.short, b) → shortIsPrefix (getTable s k).len b = true →
      exec (.hdecDecode t) s = .next (complete { s with
        br := ⟨b.acc, b.n⟩, inq := b.bytes, res := { s.res with r0 := 0, r1 := 1 } })) ∧
    ((getTable s k).built = true → ∀ b : BitSrc,
      (decodeSym (getTable s k).len ⟨s.br.acc, s.br.n, s.inq, 0⟩ = (.invalid, b) ∨
        (decodeSym (getTable s k).len ⟨s.br.acc, s.br.n, s.inq, 0⟩ = (.short, b) ∧
          shortIsPrefix (getTable s k).len b = false)) →
      exec (.hdecDecode t) s = .next (raiseErr .huffInvalidCode 0x42 { s with br := ⟨b.acc, b.n⟩, inq := b.bytes })) ∧
    ((getTable s k).built = false → exec (.hdecDecode t) s = .next (raiseErr .notBuilt 0x42 s))) ∧
  (∀ (s : State) (t : BitVec 8), 2 < t.toNat → s.infl.phase.active = false →
    exec (.hdecDecode t) s = .next (raiseErr .badArg 0x42 s))

/-- For every length list with lengths up to 15 and Kraft sum at most 2^15 and every used symbol s: when the next bits of the reader
are the reversed canonical code that the encoder stores for s, and they are held, Decode returns s and consumes exactly those
bits. (derived: R295, R262, R214) -/
def Obligations.DecodeInvertsTheEncodersCodes : Prop :=
  ∀ (len : List Nat) (b : BitSrc) (s : Nat), (∀ l ∈ len, l ≤ 15) → kraft len ≤ 32768 →
    0 < len.getD s 0 → len.getD s 0 ≤ b.n → b.acc.toNat % 2 ^ len.getD s 0 = (revCodes len).getD s 0 →
    decodeSym len b = (.sym s, { b with acc := b.acc >>> len.getD s 0, n := b.n - len.getD s 0 })

/-- With the compressor inactive, n at most 16 and v below 2^n, and the writer as every command finds it with room in OUT for a full
PENDING, BW_WRITE_BITS completes with exactly the n bits of v after those held, whole bytes to PENDING, and nothing else
changed. Any other operand is BAD_ARG. (derived: R320, R321, R331) -/
def Obligations.WriteBitsAppendsTheBits : Prop :=
  ∀ (s : State) (n : BitVec 8) (v : BitVec 16), s.defl.phase.active = false →
    (n.toNat ≤ 16 → v.toNat < 2 ^ n.toNat → WriterReady s →
      ∃ t, exec (.bwWriteBits n v) s = .next t ∧ BitsWritten v.toNat n.toNat s t) ∧
    ((16 < n.toNat ∨ 2 ^ n.toNat ≤ v.toNat) → exec (.bwWriteBits n v) s = .next (raiseErr .badArg 0x50 s))

/-- With the compressor inactive and room in PENDING: BW_ALIGN pads the held bits to one byte, or does nothing with none held; with
no bits held BW_WRITE_BYTES appends ARG0 bytes of IN, BW_WRITE_SHORT_LE and _BE the two bytes of IMM, BW_WRITE_INT_LE and _BE
the four bytes of ARG0, in the order named. With bits held the raw writes raise RAW_WRITE_UNALIGNED and change nothing else,
BW_WRITE_BYTES before any other check as R615 lists them (log 25). With too few bytes BW_WRITE_BYTES holds or raises
SHORT_INPUT, above IN_CAPACITY BAD_ARG. (derived: R146, R322, R323, R324, R325, R326, R328, R332, R333, R615) -/
def Obligations.WriterAlignsAndAppendsRawBytes : Prop :=
  ∀ s : State, s.defl.phase.active = false →
    (s.bw.n = 0 → exec .bwAlign s = .next (complete s)) ∧
    (0 < s.bw.n → s.bw.pending.length + 1 ≤ Config.pendingCap →
      exec .bwAlign s = .next (complete { s with bw := ⟨0, 0, s.bw.pending ++ [s.bw.acc.setWidth 8]⟩ })) ∧
    (s.bw.n = 0 → overInCap s s.lat.r0.toNat = false → s.lat.r0.toNat ≤ s.inq.length →
      s.bw.pending.length + s.lat.r0.toNat ≤ Config.pendingCap →
      exec .bwWriteBytes s = .next (pended (s.inq.take s.lat.r0.toNat) { s with inq := s.inq.drop s.lat.r0.toNat })) ∧
    (∀ v : BitVec 16, s.bw.n = 0 → s.bw.pending.length + 2 ≤ Config.pendingCap →
      exec (.bwWriteShortLe v) s = .next (pended [v.setWidth 8, (v >>> 8).setWidth 8] s) ∧
      exec (.bwWriteShortBe v) s = .next (pended [(v >>> 8).setWidth 8, v.setWidth 8] s)) ∧
    (s.bw.n = 0 → s.bw.pending.length + 4 ≤ Config.pendingCap →
      exec .bwWriteIntLe s = .next (pended [s.lat.r0.setWidth 8, (s.lat.r0 >>> 8).setWidth 8,
        (s.lat.r0 >>> 16).setWidth 8, (s.lat.r0 >>> 24).setWidth 8] s) ∧
      exec .bwWriteIntBe s = .next (pended [(s.lat.r0 >>> 24).setWidth 8, (s.lat.r0 >>> 16).setWidth 8,
        (s.lat.r0 >>> 8).setWidth 8, s.lat.r0.setWidth 8] s)) ∧
    (s.bw.n = 0 → CountedRefusals .bwWriteBytes 0x52 s.lat.r0.toNat s) ∧
    (s.bw.n ≠ 0 → exec .bwWriteBytes s = .next (raiseErr .rawWriteUnaligned 0x52 s)) ∧
    (∀ v : BitVec 16, s.bw.n ≠ 0 →
      exec (.bwWriteShortLe v) s = .next (raiseErr .rawWriteUnaligned 0x53 s) ∧
      exec (.bwWriteShortBe v) s = .next (raiseErr .rawWriteUnaligned 0x54 s)) ∧
    (s.bw.n ≠ 0 → exec .bwWriteIntLe s = .next (raiseErr .rawWriteUnaligned 0x55 s) ∧
      exec .bwWriteIntBe s = .next (raiseErr .rawWriteUnaligned 0x56 s))

/-- With the compressor inactive: BW_FLUSH with room in OUT for all of PENDING moves it to OUT and puts its size into RES0, and with
room for only some it moves those and holds, the rest kept and the size still to be reported; BW_RESET empties the writer;
BW_STATUS puts BW_N, the size of PENDING and BW_ACC into RES0-RES2. The bits in BW_ACC stay in a flush. (derived: R16, R327,
R329, R330, R334) -/
def Obligations.WriterFlushResetAndStatus : Prop :=
  ∀ s : State, s.defl.phase.active = false →
    (outRoom s s.bw.pending.length = s.bw.pending.length →
      exec .bwFlush s = .next (complete { s with
        outq := s.outq ++ s.bw.pending
        bw := { s.bw with pending := [] }
        res := { s.res with r0 := BitVec.ofNat 32 s.bw.pending.length } })) ∧
    (∀ c : Nat, s.params.outCap = some c → c < s.outq.length + s.bw.pending.length → s.bw.pending ≠ [] →
      exec .bwFlush s = .next { s with
        outq := s.outq ++ s.bw.pending.take (c - s.outq.length)
        bw := { s.bw with pending := s.bw.pending.drop (c - s.outq.length) }
        wait := .outSpace
        tasks := [.flush .host, .res [(0, BitVec.ofNat 32 s.bw.pending.length)]] }) ∧
    (exec .bwReset s = .next (complete { s with bw := ⟨0, 0, []⟩ })) ∧
    (exec .bwStatus s = .next (complete { s with res := { s.res with
      r0 := BitVec.ofNat 32 s.bw.n
      r1 := BitVec.ofNat 32 (min s.bw.pending.length (2 ^ 32 - 1))
      r2 := s.bw.acc } }))

/-- With the decompressor inactive, the reader's invariant and n at most 16, both pop the least bytes of IN that hold n bits. With
enough bits BR_PEEK puts the next n bits into RES0 and 0 into RES1 and consumes none, and BR_SKIP consumes them; with too few
BR_PEEK gives 0 and 1 and BR_SKIP raises SHORT_INPUT, both keeping the popped bytes. n above 16 is BAD_ARG. (derived: R340,
R341, R342) -/
def Obligations.PeekAndSkipTakeTheNextBits : Prop :=
  ∀ (s : State) (n : BitVec 8), s.infl.phase.active = false →
    (n.toNat ≤ 16 → s.readerOk → n.toNat ≤ bitsHeld s →
      exec (.brPeek n) s = .next (complete { popped (popsFor n.toNat s) s with
        res := { s.res with r0 := BitVec.ofNat 32 (bitsAhead s % 2 ^ n.toNat), r1 := 0 } }) ∧
      exec (.brSkip n) s = .next (complete (skipped n.toNat (popped (popsFor n.toNat s) s)))) ∧
    (n.toNat ≤ 16 → s.readerOk → bitsHeld s < n.toNat →
      exec (.brPeek n) s = .next (complete { popped s.inq.length s with res := { s.res with r0 := 0, r1 := 1 } }) ∧
      exec (.brSkip n) s = .next (raiseErr .shortInput 0x61 (popped s.inq.length s))) ∧
    (16 < n.toNat → exec (.brPeek n) s = .next (raiseErr .badArg 0x60 s) ∧
      exec (.brSkip n) s = .next (raiseErr .badArg 0x61 s))

/-- With the decompressor inactive, the reader's invariant and BR_N a multiple of 8: BR_READ16_LE and _BE consume the next 16 bits
and BR_READ32_LE and _BE the next 32, popping only what is missing, and put the value into RES0 with the byte order named. With
too few bits they raise SHORT_INPUT, the 32-bit ones without popping. Off a byte boundary all four raise RAW_READ_UNALIGNED and
change nothing else. (derived: R343, R344, R346, R347) -/
def Obligations.FixedReadsTakeWholeBytes : Prop :=
  ∀ s : State, s.infl.phase.active = false → s.readerOk →
    (s.br.n % 8 = 0 → 16 ≤ bitsHeld s →
      exec .brRead16Le s = .next (complete { s with
        br := ⟨s.br.acc >>> 16, s.br.n - 16⟩
        inq := s.inq.drop ((16 - s.br.n) / 8)
        res := { s.res with r0 := BitVec.ofNat 32 (bitsAhead s % 65536) } }) ∧
      exec .brRead16Be s = .next (complete { s with
        br := ⟨s.br.acc >>> 16, s.br.n - 16⟩
        inq := s.inq.drop ((16 - s.br.n) / 8)
        res := { s.res with r0 := BitVec.ofNat 32 (bitsAhead s % 256 * 256 + bitsAhead s / 256 % 256) } })) ∧
    (s.br.n % 8 = 0 → 32 ≤ bitsHeld s →
      exec .brRead32Le s = .next (complete { s with
        br := ⟨0, 0⟩
        inq := s.inq.drop ((32 - s.br.n) / 8)
        res := { s.res with r0 := BitVec.ofNat 32 (bitsAhead s % 2 ^ 32) } }) ∧
      exec .brRead32Be s = .next (complete { s with
        br := ⟨0, 0⟩
        inq := s.inq.drop ((32 - s.br.n) / 8)
        res := { s.res with r0 := BitVec.ofNat 32 (bitsAhead s % 256 * 16777216 + bitsAhead s / 256 % 256 * 65536
          + bitsAhead s / 65536 % 256 * 256 + bitsAhead s / 16777216 % 256) } })) ∧
    (s.br.n % 8 = 0 → bitsHeld s < 16 →
      exec .brRead16Le s = .next (raiseErr .shortInput 0x62 (popped s.inq.length s)) ∧
      exec .brRead16Be s = .next (raiseErr .shortInput 0x63 (popped s.inq.length s))) ∧
    (s.br.n % 8 = 0 → bitsHeld s < 32 →
      exec .brRead32Le s = .next (raiseErr .shortInput 0x64 s) ∧
      exec .brRead32Be s = .next (raiseErr .shortInput 0x65 s)) ∧
    (s.br.n % 8 ≠ 0 →
      exec .brRead16Le s = .next (raiseErr .rawReadUnaligned 0x62 s) ∧
      exec .brRead16Be s = .next (raiseErr .rawReadUnaligned 0x63 s) ∧
      exec .brRead32Le s = .next (raiseErr .rawReadUnaligned 0x64 s) ∧
      exec .brRead32Be s = .next (raiseErr .rawReadUnaligned 0x65 s))

/-- With the decompressor inactive: BR_ALIGN drops BR_N mod 8 bits and puts that count into RES0 without popping; BR_RESET empties
the reader and leaves IN; BR_AVAIL puts BR_N, the size of IN and IN_END into RES0-RES2 and pops nothing. (derived: R348, R349,
R350, R352) -/
def Obligations.ReaderAlignResetAndAvail : Prop :=
  ∀ s : State, s.infl.phase.active = false →
    (exec .brAlign s = .next (complete { s with
      br := ⟨s.br.acc >>> (s.br.n % 8), s.br.n - s.br.n % 8⟩
      res := { s.res with r0 := BitVec.ofNat 32 (s.br.n % 8) } })) ∧
    (exec .brReset s = .next (complete { s with br := ⟨0, 0⟩ })) ∧
    (exec .brAvail s = .next (complete { s with res := { s.res with
      r0 := BitVec.ofNat 32 s.br.n
      r1 := BitVec.ofNat 32 (min s.inq.length (2 ^ 32 - 1))
      r2 := if s.inEnd = true then 1 else 0 } }))

/-- With the compressor inactive: LZ_RESET with legal CTRL fields latches DEFL_PARAMS and resets the cursor, the block bounds, the
chains and the carried match, keeping WIN; LZ_LOAD of k bytes that fit appends them after the lookahead and puts LOOKAHEAD into
RES0; LZ_FIND with prev_len at most 258 puts the longest match's length and distance, or 0 and 0, and the candidate into
RES0-RES2 and changes nothing else; the search is the reference Longest of R381, which R374 names, whatever MATCH_FINDER is (log
8). Illegal operands are BAD_ARG. With too few bytes LZ_LOAD holds or raises SHORT_INPUT, above IN_CAPACITY BAD_ARG. (derived:
R146, R372, R373, R374, R381, R387) -/
def Obligations.MatchFinderResetLoadAndFind : Prop :=
  ∀ s : State, s.defl.phase.active = false →
    (ctrlBad s = false → exec .lzReset s = .next (complete { s with
      lz := { win := s.lz.win, head := [], prev := [], strStart := 1, lookahead := 0, matchLen := 2, matchStart := 0
              matchAvail := false }
      defl := { s.defl with
        blockStart := 1
        blockEnd := 1
        params := mkParams (ctrlLevel s) (ctrlStrat s) (ctrlNowrap s) } })) ∧
    (ctrlBad s = true → exec .lzReset s = .next (raiseErr .badArg 0x70 s)) ∧
    (let k := s.lat.r0.toNat
     (k ≤ 65536 - s.lz.strStart - s.lz.lookahead → overInCap s k = false → k ≤ s.inq.length →
       exec .lzLoad s = .next (complete { s with
         inq := s.inq.drop k
         lz := { s.lz with
           win := cellPut s.lz.win (s.lz.strStart + s.lz.lookahead) (s.inq.take k)
           lookahead := s.lz.lookahead + k }
         res := { s.res with r0 := BitVec.ofNat 32 (s.lz.lookahead + k) } })) ∧
     (k ≤ 65536 - s.lz.strStart - s.lz.lookahead → CountedRefusals .lzLoad 0x71 k s) ∧
     (65536 - s.lz.strStart - s.lz.lookahead < k → exec .lzLoad s = .next (raiseErr .badArg 0x71 s)) ∧
     (258 < k → exec .lzFind s = .next (raiseErr .badArg 0x72 s)) ∧
     (k ≤ 258 → ∀ cand l st : Nat,
       cand = (if 3 ≤ s.lz.lookahead then headAt s.lz (hash3 s.lz s.lz.strStart) else 0) →
       (l, st) = (if cand ≠ 0 ∧ s.lz.strStart - cand ≤ 32768 then
         longest s.lz s.defl.params s.lz.strStart cand k else (2, 0)) →
       (3 ≤ l → exec .lzFind s = .next (complete { s with res := { s.res with
         r0 := BitVec.ofNat 32 l, r1 := BitVec.ofNat 32 (s.lz.strStart - st), r2 := BitVec.ofNat 32 cand } })) ∧
       (l < 3 → exec .lzFind s = .next (complete { s with res := { s.res with
         r0 := 0, r1 := 0, r2 := BitVec.ofNat 32 cand } }))))

/-- With the compressor inactive and n at most LOOKAHEAD, while the cursor stays below the slide point: without insertion LZ_ADVANCE
moves STRSTART up and LOOKAHEAD down by n, puts STRSTART into RES0 and changes nothing else; with insertion of one position that
has three loaded bytes it also links the position into its chain. n above LOOKAHEAD is BAD_ARG. (derived: R375, R380) -/
def Obligations.AdvanceMovesTheCursor : Prop :=
  ∀ s : State, s.defl.phase.active = false →
    (let n := s.lat.r0.toNat
     (n ≤ s.lz.lookahead → s.lz.strStart + n < 65267 → s.lat.r1.getLsbD 0 = false →
       exec .lzAdvance s = .next (complete { s with
         lz := { s.lz with strStart := s.lz.strStart + n, lookahead := s.lz.lookahead - n }
         res := { s.res with r0 := BitVec.ofNat 32 (s.lz.strStart + n) } })) ∧
     (n = 1 → 3 ≤ s.lz.lookahead → s.lz.strStart + 1 < 65267 → s.lat.r1.getLsbD 0 = true →
       exec .lzAdvance s = .next (complete { s with
         lz := { s.lz with
           strStart := s.lz.strStart + 1
           lookahead := s.lz.lookahead - 1
           prev := cellSet 0 s.lz.prev (s.lz.strStart % 32768) (headAt s.lz (hash3 s.lz s.lz.strStart))
           head := cellSet 0 s.lz.head (hash3 s.lz s.lz.strStart) s.lz.strStart }
         res := { s.res with r0 := BitVec.ofNat 32 (s.lz.strStart + 1) } })) ∧
     (s.lz.lookahead < n → exec .lzAdvance s = .next (raiseErr .badArg 0x73 s)))

/-- After a slide of a window in canonical form: WIN[0..32767] are the bytes that stood 32768 higher and WIN[32768..65535] keep
theirs; STRSTART drops by 32768; every HEAD and PREV entry drops by 32768 or becomes 0 below that; MATCH_START drops by 32768
where MATCH_LEN is at least 3 and is 0 otherwise. (derived: R378) -/
def Obligations.SlideMovesTheWindowDown : Prop :=
  ∀ z : Lz, Memory.wf z.win = true → Chain.wf z.head = true → Chain.wf z.prev = true →
    (∀ p, p < 32768 → winAt (slideLz z) p = winAt z (p + 32768)) ∧
    (∀ p, 32768 ≤ p → p < 65536 → winAt (slideLz z) p = winAt z p) ∧
    (slideLz z).strStart = z.strStart - 32768 ∧ (slideLz z).lookahead = z.lookahead ∧
    (∀ h, headAt (slideLz z) h = if 32768 ≤ headAt z h then headAt z h - 32768 else 0) ∧
    (∀ p, prevAt (slideLz z) p = if 32768 ≤ prevAt z p then prevAt z p - 32768 else 0) ∧
    (slideLz z).matchStart = (if 3 ≤ z.matchLen then z.matchStart - 32768 else 0) ∧
    (slideLz z).matchLen = z.matchLen ∧ (slideLz z).matchAvail = z.matchAvail

/-- For every window, parameters, cursor, candidate below the cursor and prev_len: a result of the reference search of length at
least 3 is longer than prev_len, at most 258 and at most LOOKAHEAD, starts at a non-zero position before the cursor and at most
32768 back, and its bytes equal the bytes at the cursor one by one. Every match a table of MATCH_FINDER chooses is 3 to 258 long
and at most LOOKAHEAD, reaches back at most 32768 and at most the input bytes before the cursor since DEFL_RESET, and its input
bytes equal those at the cursor; with no byte held the compressor's step records exactly it, or the literal it chooses, and
moves the cursor past it, and only HEAD and PREV may take the covered positions its row links. MATCH_FINDER as a table over the
reference, and the links as part of its row, are the model's form of R11's parameter (log 8). (derived: R11, R370, R381, R395) -/
def Obligations.EveryMatchFoundIsReal : Prop :=
  (∀ (z : Lz) (p : DeflParams) (cur cand prevLen l st : Nat), cand < cur →
    longest z p cur cand prevLen = (l, st) → 3 ≤ l →
    prevLen < l ∧ l ≤ 258 ∧ l ≤ z.lookahead ∧ 0 < st ∧ st < cur ∧ cur - st ≤ 32768 ∧
      ∀ k, k < l → winAt z (st + k) = winAt z (cur + k)) ∧
  (∀ (s : State) (r : FindRow) (l d : Nat), finderChoice s = some r → r.take = some (l, d) →
    (3 ≤ l ∧ l ≤ 258 ∧ 1 ≤ d ∧ d ≤ 32768 ∧ l ≤ s.lz.lookahead ∧ d ≤ inputBefore s ∧
      inputBefore s + l ≤ s.defl.input.length ∧
      ∀ k, k < l → s.defl.input.getD (inputBefore s - d + k) 0 = s.defl.input.getD (inputBefore s + k) 0) ∧
    (s.lz.matchAvail = false → deflStep s = { s with
      lz := { linkCovered l r.link s.lz with
        strStart := s.lz.strStart + l, lookahead := s.lz.lookahead - l, matchLen := 2 }
      defl := { s.defl with pairs := s.defl.pairs ++ [(l, d)], blockEnd := s.defl.blockEnd + l } })) ∧
  (∀ (s : State) (r : FindRow), finderChoice s = some r → r.take = none → s.lz.matchAvail = false → deflStep s = { s with
    lz := { linkCovered 1 r.link s.lz with
      strStart := s.lz.strStart + 1, lookahead := s.lz.lookahead - 1, matchLen := 2 }
    defl := { s.defl with
      pairs := s.defl.pairs ++ [((winAt s.lz s.lz.strStart).toNat, 0)]
      blockEnd := s.defl.blockEnd + 1 } }) ∧
  (∀ (n : Nat) (link : List Nat) (z : Lz),
    linkCovered n link z = { z with head := (linkCovered n link z).head, prev := (linkCovered n link z).prev })

/-- In every phase, with legal CTRL fields, DEFL_RESET latches DEFL_PARAMS, resets the writer, the trees, the window and the stream
fields, puts the zlib header of the level into PENDING unless NOWRAP, and the phase is FILLING; illegal fields are BAD_ARG. In
FILLING with nothing more announced, DEFL_INPUT of k bytes that leave fewer than 269 loaded moves them into the window, the
Adler sum and the model's record of this stream's input (log 28), puts DEFL_OUTCOUNT into RES0 and stays FILLING, with nothing
pushed. In FINISHED it raises STREAM_FINISHED, in any other phase NOT_READY. With too few bytes DEFL_INPUT holds or raises
SHORT_INPUT, above IN_CAPACITY BAD_ARG. (derived: R146, R376, R377, R387, R388, R412, R413) -/
def Obligations.CompressorResetAndSmallInput : Prop :=
  (∀ s : State, ctrlBad s = false → exec .deflReset s = .next (complete { s with
    t0 := HTree.reset 286
    t1 := HTree.reset 30
    t2 := HTree.reset 19
    bw := ⟨0, 0, if ctrlNowrap s = true then [] else if ctrlLevel s ≤ 1 then [0x78, 0x01]
      else if ctrlLevel s ≤ 5 then [0x78, 0x5E] else if ctrlLevel s = 6 then [0x78, 0x9C] else [0x78, 0xDA]⟩
    lz := { win := s.lz.win, head := [], prev := [], strStart := 1, lookahead := 0, matchLen := 2, matchStart := 0
            matchAvail := false }
    defl := ⟨.filling, 1, 1, [], [], [], 1, 0, false, mkParams (ctrlLevel s) (ctrlStrat s) (ctrlNowrap s)⟩ })) ∧
  (∀ s : State, ctrlBad s = true → exec .deflReset s = .next (raiseErr .badArg 0x80 s)) ∧
  (∀ s : State, s.defl.phase = .filling → s.defl.fin = false → overInCap s s.lat.r0.toNat = false →
    s.lat.r0.toNat ≤ s.inq.length → s.lz.strStart < 65267 →
    s.lz.lookahead + s.defl.stage.length + s.lat.r0.toNat < 269 →
    exec .deflInput s = .next (complete { s with
      inq := s.inq.drop s.lat.r0.toNat
      lz := { s.lz with
        win := cellPut s.lz.win (s.lz.strStart + s.lz.lookahead) (s.defl.stage ++ s.inq.take s.lat.r0.toNat)
        lookahead := s.lz.lookahead + s.defl.stage.length + s.lat.r0.toNat }
      defl := { s.defl with
        stage := []
        input := s.defl.input ++ s.inq.take s.lat.r0.toNat
        adler := adler s.defl.adler (s.inq.take s.lat.r0.toNat) }
      res := { s.res with r0 := s.defl.outCount } })) ∧
  (∀ s : State, s.defl.phase = .filling → CountedRefusals .deflInput 0x81 s.lat.r0.toNat s) ∧
  (∀ s : State, s.defl.phase = .finished → exec .deflInput s = .next (raiseErr .streamFinished 0x81 s)) ∧
  (∀ s : State, s.defl.phase ≠ .finished → s.defl.phase ≠ .filling →
    exec .deflInput s = .next (raiseErr .notReady 0x81 s))

/-- In FILLING with all input searched (nothing staged, no lookahead), the held byte if there is one going out as a literal, and
room in PENDING and OUT: DEFL_FINISH pushes PENDING, then the pairs' block as the final one, of the type R402 chooses, then
unless NOWRAP the Adler sum big-endian after the padding to a byte; the phase is FINISHED, RES0 and RES1 are DEFL_OUTCOUNT and
DEFL_ADLER. COMPRESS of the empty input, ended, at level 6 gives 78 9C 03 00 00 00 00 01; of one byte b it gives 78 9C, the one
final block of the literal b, and the Adler sum. After FINISHED, DEFL_FINISH raises STREAM_FINISHED. The code lengths are the
parameter HUFF_LENGTHS (log 7), and the one byte a literal under any MATCH_FINDER (log 8). (derived: R388, R393, R400, R402,
R409, R410, R411, R412, R414, R415) -/
def Obligations.FinishingTheStream : Prop :=
  (∀ (s : State) (p : BlockPlan), s.defl.phase = .filling → s.lz.lookahead = 0 → s.defl.stage = [] →
    s.lz.strStart < 65267 → s.zip.saving = false →
    let held := s.lz.matchAvail
    let pairs := if held = true then s.defl.pairs ++ [((winAt s.lz (s.lz.strStart - 1)).toNat, 0)] else s.defl.pairs
    let blockEnd := if held = true then s.defl.blockEnd + 1 else s.defl.blockEnd
    let n := blockEnd - s.defl.blockStart
    let tail : List WOp :=
      if s.defl.params.nowrap = true then [.align] else [.align, .raw (be32 s.defl.adler.toNat)]
    let q := packOps (blockOps true (blockKind s.defl.params.level n p) (cellTake s.lz.win s.defl.blockStart n) pairs p ++ tail)
      ⟨s.bw.acc, s.bw.n, []⟩
    let out := s.bw.pending ++ q.out.reverse
    planBlock s.params pairs = some p → out.length ≤ Config.pendingCap → outRoom s out.length = out.length →
    ∃ a b c : HTree, exec .deflFinish s = .next (complete { s with
      outq := s.outq ++ out
      bw := ⟨q.acc, q.n, []⟩
      t0 := a
      t1 := b
      t2 := c
      lz := { s.lz with matchAvail := false }
      defl := { s.defl with
        phase := .finished
        blockStart := blockEnd
        blockEnd := blockEnd
        pairs := []
        fin := true
        outCount := s.defl.outCount + BitVec.ofNat 32 out.length }
      res := { s.res with r0 := s.defl.outCount + BitVec.ofNat 32 out.length, r1 := s.defl.adler } })) ∧
  (∀ s : State, s.inq = [] → s.inEnd = true → s.ctrl = 0x8C → s.params.lengths = [] → outRoom s 8 = 8 →
    s.zip.saving = false →
    ∃ a b c : HTree, exec .compress s = .next (complete { s with
      outq := s.outq ++ [0x78, 0x9C, 0x03, 0x00, 0x00, 0x00, 0x00, 0x01]
      bw := ⟨0, 0, []⟩
      t0 := a
      t1 := b
      t2 := c
      lz := { win := s.lz.win, head := [], prev := [], strStart := 1, lookahead := 0, matchLen := 2, matchStart := 0
              matchAvail := false }
      defl := ⟨.finished, 1, 1, [], [], [], 1, 8, true, mkParams 6 0 false⟩
      res := { s.res with r0 := 8, r1 := 1 } })) ∧
  (∀ (s : State) (x : Byte) (p : BlockPlan), s.inq = [x] → s.inEnd = true → s.ctrl = 0x8C → s.zip.saving = false →
    Memory.wf s.lz.win = true →
    let q := packOps (blockOps true (blockKind 6 1 p) [x] [(x.toNat, 0)] p ++ [.align, .raw (be32 (adler 1 [x]).toNat)])
      ⟨0, 0, []⟩
    let out := [0x78, 0x9C] ++ q.out.reverse
    planBlock s.params [(x.toNat, 0)] = some p → out.length ≤ Config.pendingCap → outRoom s out.length = out.length →
    ∃ t : State, exec .compress s = .next t ∧ t.busy = false ∧ t.wait = .none ∧ t.inq = [] ∧ t.outq = s.outq ++ out ∧
      t.defl.phase = .finished ∧ t.res.r0 = BitVec.ofNat 32 out.length ∧ t.res.r1 = adler 1 [x]) ∧
  (∀ s : State, s.defl.phase = .finished → exec .deflFinish s = .next (raiseErr .streamFinished 0x82 s))

/-- For every plan of a block of n bytes: at level 0 the type is stored; above it stored is taken only where it costs less than both
others, fixed where it does not cost more than dynamic, dynamic otherwise, so the type taken never costs more than another.
Every list of lengths up to 15 is what its run-length sequence expands to, with each repeat count inside its extra bits. A
literal is written as its code; a match of length L and distance D as the code of the length symbol and L minus its base in its
extra bits, then the same for D; 258 is always symbol 285. (derived: R161, R162, R163, R401, R402, R408, R409) -/
def Obligations.BlocksAreChosenAndWritten : Prop :=
  (∀ (level n : Nat) (p : BlockPlan), let k := blockKind level n p
    (level = 0 → k = 0) ∧
    (level ≠ 0 →
      (k = 0 ↔ storedBits n < fixedBits p ∧ storedBits n < dynamicBits p) ∧
      (k = 1 ↔ fixedBits p ≤ dynamicBits p ∧ fixedBits p ≤ storedBits n) ∧
      (k = 2 ↔ dynamicBits p < fixedBits p ∧ dynamicBits p ≤ storedBits n))) ∧
  (∀ lens : List Nat, (∀ l ∈ lens, l ≤ 15) → clExpand [] (rle lens) = lens ∧
    ∀ q ∈ rle lens, q.k ≤ 18 ∧ q.w = clExtraBits q.k ∧ q.v < 2 ^ q.w) ∧
  (∀ (cc cl dc dl : List Nat) (x : Nat), pairOps cc cl dc dl (x, 0) = [.bits (cc.getD x 0) (cl.getD x 0)]) ∧
  (∀ (cc cl dc dl : List Nat) (l d : Nat), 3 ≤ l → l ≤ 258 → 1 ≤ d → d ≤ 32768 →
    ∃ i j : Nat, i ≤ 28 ∧ j ≤ 29 ∧ (i = 28 ↔ l = 258) ∧
      lenBase.getD i 0 ≤ l ∧ l - lenBase.getD i 0 < 2 ^ lenExtra.getD i 0 ∧
      distBase.getD j 0 ≤ d ∧ d - distBase.getD j 0 < 2 ^ distExtra.getD j 0 ∧
      pairOps cc cl dc dl (l, d) =
        [.bits (cc.getD (257 + i) 0) (cl.getD (257 + i) 0)]
          ++ (if lenExtra.getD i 0 = 0 then [] else [.bits (l - lenBase.getD i 0) (lenExtra.getD i 0)])
          ++ [.bits (dc.getD j 0) (dl.getD j 0)]
          ++ (if distExtra.getD j 0 = 0 then [] else [.bits (d - distBase.getD j 0) (distExtra.getD j 0)]))

/-- INFL_RESET in every phase latches NOWRAP, empties the reader, resets every stream field and leaves OWIN, IN and the tables.
DECOMPRESS with NOWRAP 0 and INFL_RUN right after INFL_RESET, with 78 9C 03 00 00 00 00 01 at the front of IN, consume exactly
those 8 bytes, push nothing, load the fixed tables and end DONE with RES = 0, 8, 1, 0. With NOWRAP 1, DECOMPRESS of a final
stored block of n bytes pushes those bytes into OUT, which has room, and OWIN from its start on, consumes 5 + n bytes and ends
DONE with RES = n, 5 + n, the Adler sum of the data, 0. INFL_RUN in DONE raises STREAM_FINISHED, in IDLE or ERROR NOT_READY.
(derived: R450, R451, R452, R453, R454, R455, R456, R457, R462, R463, R464) -/
def Obligations.DecompressorResetAndStreams : Prop :=
  (∀ s : State, exec .inflReset s = .next (complete { s with
    br := ⟨0, 0⟩
    infl := { Infl.reset with
      owin := s.infl.owin
      nowrap := ctrlNowrap s
      phase := if ctrlNowrap s = true then .blockHeader else .header } })) ∧
  (∀ (s : State) (rest : Bytes), s.inq = [0x78, 0x9C, 0x03, 0x00, 0x00, 0x00, 0x00, 0x01] ++ rest →
    let t := complete { s with
      inq := rest
      br := ⟨0, 0⟩
      d0 := ⟨fixedLL, true⟩
      d1 := ⟨fixedD, true⟩
      infl := { Infl.reset with
        owin := s.infl.owin, phase := .done, final := true, btype := 1, trailer := 1, consumed := 8 }
      res := ⟨0, 8, 1, 0⟩ }
    (ctrlNowrap s = false → exec .decompress s = .next t) ∧
    (s.br = ⟨0, 0⟩ → s.infl = { Infl.reset with owin := s.infl.owin, phase := .header } → exec .inflRun s = .next t)) ∧
  (∀ (s : State) (data rest : Bytes), data.length ≤ 65535 → ctrlNowrap s = true →
    s.inq = [0x01] ++ le16 data.length ++ le16 (65535 - data.length) ++ data ++ rest →
    outRoom s data.length = data.length →
    exec .decompress s = .next (complete { s with
      inq := rest
      outq := s.outq ++ data
      br := ⟨0, 0⟩
      infl := { Infl.reset with
        nowrap := true
        owin := cellPut s.infl.owin 0 data
        owpos := BitVec.ofNat 16 data.length
        total := data.length
        phase := .done
        final := true
        adler := adler 1 data
        consumed := BitVec.ofNat 32 (5 + data.length) }
      res := ⟨BitVec.ofNat 32 data.length, BitVec.ofNat 32 (5 + data.length), adler 1 data, 0⟩ })) ∧
  (∀ s : State, s.infl.phase = .done → exec .inflRun s = .next (raiseErr .streamFinished 0x91 s)) ∧
  (∀ s : State, (s.infl.phase = .idle ∨ s.infl.phase = .error) → exec .inflRun s = .next (raiseErr .notReady 0x91 s))

/-- From IN, with the reader's invariant and n at most 16 bits held or in IN, ReadBits(n) returns the next n bits least significant
first and leaves the rest; it pops no byte it does not need, and INFL_CONSUMED counts the pops. With too few bits it holds while
IN is open, the bytes popped, and raises TRUNCATED when IN has ended. Sym returns the symbol that Decode finds; where the bits
run out it holds while IN is open, and when IN has ended it raises TRUNCATED if they begin a code and HUFF_INVALID_CODE if they
begin none; where 15 bits are no code it raises HUFF_INVALID_CODE. INFL_STATE is ERROR after each raise. (derived: R295, R340,
R345, R465, R466, R467) -/
def Obligations.ReadBitsTakesTheNextBits : Prop :=
  (∀ (s : State) (n : Nat), s.infl.src = .input → s.readerOk → n ≤ 16 →
    (n ≤ bitsHeld s → readBits n s = .val (bitsAhead s % 2 ^ n) (readOff n s)) ∧
    (bitsHeld s < n → s.inEnd = false → readBits n s = .stop (.hold (.inBytes 1) { popped s.inq.length s with
      infl := { s.infl with consumed := s.infl.consumed + BitVec.ofNat 32 s.inq.length } })) ∧
    (bitsHeld s < n → s.inEnd = true →
      readBits n s = .stop (.raise .truncated (s.infl.consumed + BitVec.ofNat 32 s.inq.length)
        { popped s.inq.length s with infl := { s.infl with
          consumed := s.infl.consumed + BitVec.ofNat 32 s.inq.length
          phase := .error
          cont := .none } }))) ∧
  (∀ (s : State) (d : DTable) (k : Decoded) (b : BitSrc), s.infl.src = .input →
    decodeSym d.len ⟨s.br.acc, s.br.n, s.inq, 0⟩ = (k, b) →
    let s1 := { s with
      br := ⟨b.acc, b.n⟩
      inq := b.bytes
      infl := { s.infl with consumed := s.infl.consumed + BitVec.ofNat 32 b.pops } }
    let bad := { s1 with infl := { s1.infl with phase := .error, cont := .none } }
    (∀ y : Nat, k = .sym y → readSym d s = .val y s1) ∧
    (k = .invalid → readSym d s = .stop (.raise .huffInvalidCode s1.infl.consumed bad)) ∧
    (k = .short → s.inEnd = false → readSym d s = .stop (.hold (.inBytes 1) s1)) ∧
    (k = .short → s.inEnd = true → shortIsPrefix d.len b = true →
      readSym d s = .stop (.raise .truncated s1.infl.consumed bad)) ∧
    (k = .short → s.inEnd = true → shortIsPrefix d.len b = false →
      readSym d s = .stop (.raise .huffInvalidCode s1.infl.consumed bad)))

/-- A fixed block loads the fixed tables and goes on with its symbols. A stored block drops the bits to the byte boundary, takes LEN
and NLEN little-endian from IN and goes on to the copy, or raises STORED_LEN_MISMATCH. A dynamic block with its header held
takes HLIT, HDIST, HCLEN and the code-length lengths in CL_ORDER, builds table D2 and goes on to the code-length symbols; HLIT
above 286 raises HLIT_RANGE. Block type 3 raises BTYPE_RESERVED. In STORED_COPY each byte ahead of the byte-aligned reader is
delivered as it is and STORED_REM drops by 1, until at 0 the block ends; with no byte ahead the command holds while IN is open
and raises TRUNCATED when it has ended. (derived: R155, R156, R157, R211, R455, R456, R457, R458) -/
def Obligations.BlockHeaderSymbols : Prop :=
  (∀ (s : State) (fin : Bool), exec (.blockFixed fin) s = .next { s with
    d0 := ⟨fixedLL, true⟩
    d1 := ⟨fixedD, true⟩
    infl := { s.infl with final := fin, btype := 1, phase := .huffmanDecode, cont := .none } }) ∧
  (∀ (s : State) (fin : Bool) (a b c d : Byte) (rest : Bytes), s.infl.src = .input → s.readerOk → s.br.n ≤ 7 →
    s.inq = a :: b :: c :: d :: rest →
    (a.toNat + 256 * b.toNat = 65535 - (c.toNat + 256 * d.toNat) → exec (.blockStored fin) s = .next { s with
      br := ⟨0, 0⟩
      inq := rest
      infl := { s.infl with
        final := fin
        btype := 0
        phase := .storedCopy
        cont := .none
        storedRem := a.toNat + 256 * b.toNat
        consumed := s.infl.consumed + 4 } }) ∧
    (a.toNat + 256 * b.toNat ≠ 65535 - (c.toNat + 256 * d.toNat) →
      exec (.blockStored fin) s = .next (inflRaised .storedLenMismatch { s with
        br := ⟨0, 0⟩
        inq := rest
        infl := { s.infl with final := fin, btype := 0, consumed := s.infl.consumed + 4 } }))) ∧
  (∀ (s : State) (fin : Bool), s.infl.src = .input → s.readerOk →
    let v := bitsAhead s
    let h := v / 1024 % 16 + 4
    let s1 := { s with infl := { s.infl with
      final := fin
      btype := 2
      hlit := v % 32 + 257
      hdist := v / 32 % 32 + 1
      hclen := h } }
    (14 ≤ bitsHeld s → 286 < v % 32 + 257 → exec (.blockDynamic fin) s = .next (inflRaised .hlitRange (readOff 14 s1))) ∧
    (14 + 3 * h ≤ bitsHeld s → v % 32 + 257 ≤ 286 → kraft (headerCllen v h) ≤ 32768 →
      exec (.blockDynamic fin) s = .next (readOff (14 + 3 * h) { s1 with
        d2 := ⟨headerCllen v h, true⟩
        infl := { s1.infl with cllen := headerCllen v h, lenseq := [], cont := .clens } }))) ∧
  (∀ (s : State) (fin : Bool), s.infl.src = .input → exec (.blockReserved fin) s = .next (inflRaised .btypeReserved
    { s with infl := { s.infl with final := fin, btype := 3 } })) ∧
  (∀ s : State, s.infl.phase = .storedCopy → s.infl.src = .input → s.readerOk → s.br.n % 8 = 0 →
    (∀ r : Nat, s.infl.storedRem = r + 1 → 8 ≤ bitsHeld s → outRoom s 1 = 1 →
      let x : Byte := BitVec.ofNat 8 (bitsAhead s)
      let s1 := readOff 8 s
      runInfl s = .ok { s1 with
        outq := s.outq ++ [x]
        infl := { s1.infl with
          storedRem := r
          owin := cellSet 0 s.infl.owin s.infl.owpos.toNat x
          owpos := s.infl.owpos + 1
          total := s.infl.total + 1
          adler := adler s.infl.adler [x] } }) ∧
    (0 < s.infl.storedRem → bitsHeld s < 8 → s.inEnd = false → runInfl s = .hold (.inBytes 1) s) ∧
    (0 < s.infl.storedRem → bitsHeld s < 8 → s.inEnd = true → runInfl s = .raise .truncated s.infl.consumed
      { s with infl := { s.infl with phase := .error, cont := .none } }) ∧
    (s.infl.storedRem = 0 → runInfl s = .ok { s with infl := { s.infl with
      phase := if s.infl.final = false then .blockHeader else if s.infl.nowrap = true then .done else .checksum
      cont := .none } }))

/-- A literal enters OWIN at OWPOS, is counted in INFL_TOTAL and INFL_ADLER, and goes to OUT when the source is IN, or to DBUF, and
OUT when asked, in an entry decode; on a full OUT the command holds with the byte still to push. The end-of-block symbol goes to
BLOCK_HEADER, or after the final block to CHECKSUM, or to DONE with NOWRAP. (derived: R16, R453, R459, R462, R531) -/
def Obligations.LiteralAndEndOfBlock : Prop :=
  (∀ (s : State) (b : Byte),
    let s1 := { s with infl := { s.infl with
      owin := cellSet 0 s.infl.owin s.infl.owpos.toNat b
      owpos := s.infl.owpos + 1
      total := s.infl.total + 1
      adler := adler s.infl.adler [b]
      cont := .none } }
    (s.infl.src = .input → outRoom s 1 = 1 → exec (.lit b) s = .next { s1 with outq := s.outq ++ [b] }) ∧
    (s.infl.src = .input → outRoom s 1 = 0 →
      exec (.lit b) s = .next { s1 with wait := .outSpace, tasks := .push [b] :: s.tasks }) ∧
    (∀ (i : Nat) (rest : Bytes), s.infl.src = .entry i false rest →
      exec (.lit b) s = .next { s1 with zip := { s.zip with dbuf := s.zip.dbuf ++ [b] } }) ∧
    (∀ (i : Nat) (rest : Bytes), s.infl.src = .entry i true rest → outRoom s 1 = 1 →
      exec (.lit b) s = .next { s1 with outq := s.outq ++ [b], zip := { s.zip with dbuf := s.zip.dbuf ++ [b] } }) ∧
    (∀ (i : Nat) (rest : Bytes), s.infl.src = .entry i true rest → outRoom s 1 = 0 →
      exec (.lit b) s = .next { s1 with
        zip := { s.zip with dbuf := s.zip.dbuf ++ [b] }, wait := .outSpace, tasks := .push [b] :: s.tasks })) ∧
  (∀ s : State,
    (s.infl.final = false →
      exec .eob s = .next { s with infl := { s.infl with phase := .blockHeader, cont := .none } }) ∧
    (s.infl.final = true → s.infl.nowrap = false →
      exec .eob s = .next { s with infl := { s.infl with phase := .checksum, cont := .none } }) ∧
    (s.infl.final = true → s.infl.nowrap = true →
      exec .eob s = .next { s with infl := { s.infl with phase := .done, cont := .none } }))

/-- For every state and extra-bits number E, each length symbol LEN_257 to LEN_285 completes with a match of length base + E waiting
for its distance symbol and nothing else changed, the bases being those of the length table. Symbols 286 and 287 raise
LITLEN_RESERVED. (derived: R161, R164, R459, R460) -/
def Obligations.LengthSymbolsGiveBasePlusExtra : Prop :=
  (∀ (s : State) (e : Nat),
    exec .len257 s = .next (owes 3 s) ∧ exec .len258 s = .next (owes 4 s) ∧ exec .len259 s = .next (owes 5 s) ∧
    exec .len260 s = .next (owes 6 s) ∧ exec .len261 s = .next (owes 7 s) ∧ exec .len262 s = .next (owes 8 s) ∧
    exec .len263 s = .next (owes 9 s) ∧ exec .len264 s = .next (owes 10 s) ∧
    exec (.len265 e) s = .next (owes (11 + e) s) ∧ exec (.len266 e) s = .next (owes (13 + e) s) ∧
    exec (.len267 e) s = .next (owes (15 + e) s) ∧ exec (.len268 e) s = .next (owes (17 + e) s) ∧
    exec (.len269 e) s = .next (owes (19 + e) s) ∧ exec (.len270 e) s = .next (owes (23 + e) s) ∧
    exec (.len271 e) s = .next (owes (27 + e) s) ∧ exec (.len272 e) s = .next (owes (31 + e) s) ∧
    exec (.len273 e) s = .next (owes (35 + e) s) ∧ exec (.len274 e) s = .next (owes (43 + e) s) ∧
    exec (.len275 e) s = .next (owes (51 + e) s) ∧ exec (.len276 e) s = .next (owes (59 + e) s) ∧
    exec (.len277 e) s = .next (owes (67 + e) s) ∧ exec (.len278 e) s = .next (owes (83 + e) s) ∧
    exec (.len279 e) s = .next (owes (99 + e) s) ∧ exec (.len280 e) s = .next (owes (115 + e) s) ∧
    exec (.len281 e) s = .next (owes (131 + e) s) ∧ exec (.len282 e) s = .next (owes (163 + e) s) ∧
    exec (.len283 e) s = .next (owes (195 + e) s) ∧ exec (.len284 e) s = .next (owes (227 + e) s) ∧
    exec .len285 s = .next (owes 258 s)) ∧
  (∀ (s : State) (odd : Bool), s.infl.src = .input →
    exec (.litlenReserved odd) s = .next (inflRaised .litlenReserved s))

/-- For every distance symbol with base + E not beyond what was produced, from IN with room in OUT: the owed match is copied byte by
byte from that distance, so that a distance below the length repeats the last bytes; the bytes enter OWIN, INFL_TOTAL,
INFL_ADLER and OUT and nothing else changes. A distance beyond what was produced raises DIST_TOO_FAR. Symbols 30 and 31 raise
DIST_RESERVED. (derived: R162, R164, R461, R462, R718) -/
def Obligations.DistanceSymbolsCopyByteByByte : Prop :=
  (∀ (s : State) (e : Nat),
    let does : Instr → Nat → State → Prop := fun i d s =>
      (CopyReady d s → ∃ t, exec i s = .next t ∧ Copied (pendingLen s) d s t) ∧
      (s.infl.src = .input → s.infl.total < d → exec i s = .next (inflRaised .distTooFar s))
    does .dist0 1 s ∧ does .dist1 2 s ∧ does .dist2 3 s ∧ does .dist3 4 s ∧ (e < 2 → does (.dist4 e) (5 + e) s) ∧
    (e < 2 → does (.dist5 e) (7 + e) s) ∧ (e < 4 → does (.dist6 e) (9 + e) s) ∧ (e < 4 → does (.dist7 e) (13 + e) s) ∧
    (e < 8 → does (.dist8 e) (17 + e) s) ∧ (e < 8 → does (.dist9 e) (25 + e) s) ∧ (e < 16 → does (.dist10 e) (33 + e) s) ∧
    (e < 16 → does (.dist11 e) (49 + e) s) ∧ (e < 32 → does (.dist12 e) (65 + e) s) ∧
    (e < 32 → does (.dist13 e) (97 + e) s) ∧ (e < 64 → does (.dist14 e) (129 + e) s) ∧
    (e < 64 → does (.dist15 e) (193 + e) s) ∧ (e < 128 → does (.dist16 e) (257 + e) s) ∧
    (e < 128 → does (.dist17 e) (385 + e) s) ∧ (e < 256 → does (.dist18 e) (513 + e) s) ∧
    (e < 256 → does (.dist19 e) (769 + e) s) ∧ (e < 512 → does (.dist20 e) (1025 + e) s) ∧
    (e < 512 → does (.dist21 e) (1537 + e) s) ∧ (e < 1024 → does (.dist22 e) (2049 + e) s) ∧
    (e < 1024 → does (.dist23 e) (3073 + e) s) ∧ (e < 2048 → does (.dist24 e) (4097 + e) s) ∧
    (e < 2048 → does (.dist25 e) (6145 + e) s) ∧ (e < 4096 → does (.dist26 e) (8193 + e) s) ∧
    (e < 4096 → does (.dist27 e) (12289 + e) s) ∧ (e < 8192 → does (.dist28 e) (16385 + e) s) ∧
    (e < 8192 → does (.dist29 e) (24577 + e) s)) ∧
  (∀ (s : State) (odd : Bool), s.infl.src = .input →
    exec (.distReserved odd) s = .next (inflRaised .distReserved s))

/-- While the sequence stays short of HLIT + HDIST, symbols 0-15 append one length, 16 repeats the last 3 + E times, 17 and 18
append 3 + E and 11 + E zeros, and nothing else changes. When the sequence is full and both lists have Kraft sums at most 2^15,
tables D0 and D1 are built from its two parts and the body begins. A repeat past the end raises CLEN_OVERRUN, symbol 16 with
nothing before it CLEN_REPEAT_NO_PREV. (derived: R163, R458) -/
def Obligations.CodeLengthSymbolsExtendTheSequence : Prop :=
  ∀ s : State,
    let total := s.infl.hlit + s.infl.hdist
    let more : List Nat → State := fun l => { s with infl := { s.infl with lenseq := l, cont := .clens } }
    let full : List Nat → State := fun l => { s with
      d0 := ⟨l.take s.infl.hlit, true⟩
      d1 := ⟨(l.take total).drop s.infl.hlit, true⟩
      infl := { s.infl with lenseq := l, phase := .huffmanDecode, cont := .none } }
    let appends : Instr → List Nat → Prop := fun i ls =>
      (s.infl.lenseq.length + ls.length < total → exec i s = .next (more (s.infl.lenseq ++ ls))) ∧
      (s.infl.lenseq.length + ls.length = total → kraft ((s.infl.lenseq ++ ls).take s.infl.hlit) ≤ 32768 →
        kraft (((s.infl.lenseq ++ ls).take total).drop s.infl.hlit) ≤ 32768 →
        exec i s = .next (full (s.infl.lenseq ++ ls)))
    let overruns : Instr → Nat → Prop := fun i r =>
      s.infl.src = .input → total < s.infl.lenseq.length + r → exec i s = .next (inflRaised .clenOverrun s)
    (∀ v : Nat, appends (.clLen v) [v]) ∧
    (∀ v e : Nat, s.infl.lenseq.getLast? = some v → appends (.clRepeatPrev e) (List.replicate (3 + e) v)) ∧
    (∀ e : Nat, appends (.clZeroShort e) (List.replicate (3 + e) 0)) ∧
    (∀ e : Nat, appends (.clZeroLong e) (List.replicate (11 + e) 0)) ∧
    (∀ v e : Nat, s.infl.lenseq.getLast? = some v → overruns (.clRepeatPrev e) (3 + e)) ∧
    (∀ e : Nat, overruns (.clZeroShort e) (3 + e)) ∧ (∀ e : Nat, overruns (.clZeroLong e) (11 + e)) ∧
    (∀ e : Nat, s.infl.src = .input → s.infl.lenseq = [] →
      exec (.clRepeatPrev e) s = .next (inflRaised .clenRepeatNoPrev s))

/-- A zlib header with CM 8 whose pair is a multiple of 31, CINFO at most 7 and no dictionary goes on to the block header; otherwise
the first failing check in that order is raised. A trailer equal to INFL_ADLER is recorded and ends the stream; a different one
is recorded and raises ADLER_MISMATCH. (derived: R150, R152, R454, R463) -/
def Obligations.ZlibHeaderAndTrailerChecks : Prop :=
  (∀ (s : State) (cinfo : BitVec 4) (flg : Byte), s.infl.src = .input →
    let pair := (8 + 16 * cinfo.toNat) * 256 + flg.toNat
    (pair % 31 = 0 → cinfo.toNat ≤ 7 → flg.getLsbD 5 = false →
      exec (.zlibHeader cinfo flg) s = .next { s with infl := { s.infl with phase := .blockHeader, cont := .none } }) ∧
    (pair % 31 ≠ 0 → exec (.zlibHeader cinfo flg) s = .next (inflRaised .zlibFcheck s)) ∧
    (pair % 31 = 0 → 7 < cinfo.toNat → exec (.zlibHeader cinfo flg) s = .next (inflRaised .zlibWindow s)) ∧
    (pair % 31 = 0 → cinfo.toNat ≤ 7 → flg.getLsbD 5 = true →
      exec (.zlibHeader cinfo flg) s = .next (inflRaised .zlibFdict s))) ∧
  (∀ (s : State) (t : Word), s.infl.src = .input →
    (t = s.infl.adler → exec (.zlibTrailer t) s = .next { s with
      infl := { s.infl with trailer := t, phase := .done, cont := .none } }) ∧
    (t ≠ s.infl.adler → exec (.zlibTrailer t) s = .next (inflRaised .adlerMismatch
      { s with infl := { s.infl with trailer := t } })))

/-- ZIP_NEW with CTRL.LEVEL at most 9 opens an empty archive at that level, above 9 it is BAD_ARG. ZIP_CLOSE closes and empties the
archive. ZIP_INFO puts ZIP_STATE, the number of entries and the default level into RES0-RES2. Nothing else changes. (derived:
R501, R511, R512) -/
def Obligations.ArchiveNewCloseAndInfo : Prop :=
  ∀ s : State,
    (ctrlLevel s ≤ 9 → exec .zipNew s = .next (complete { s with
      zip := { s.zip with entries := [], defLevel := ctrlLevel s, isOpen := true } })) ∧
    (9 < ctrlLevel s → exec .zipNew s = .next (raiseErr .badArg 0xA0 s)) ∧
    (exec .zipClose s = .next (complete { s with zip := { s.zip with entries := [], isOpen := false } })) ∧
    (exec .zipInfo s = .next (complete { s with res := { s.res with
      r0 := if s.zip.isOpen = true then 1 else 0
      r1 := BitVec.ofNat 32 s.zip.entries.length
      r2 := BitVec.ofNat 32 s.zip.defLevel } }))

/-- On an open archive with legal arguments and the bytes in IN: the normalised name that no entry has is appended with the
attributes, the method and the data (for a directory: a '/' at its end, method 0, no data), at the default level with CRC, sizes
and offset 0, and RES0 is its index; an illegal name (for a directory also one above 65535 bytes with its '/') or one that
exists raises with the bytes consumed and the archive unchanged. With too few bytes each holds or raises SHORT_INPUT, above
IN_CAPACITY BAD_ARG. NAME_HOOK is a parameter of R11, the model's table over the identity (log 9). (derived: R11, R146, R502,
R503, R504, R513, R514) -/
def Obligations.AddingAnEntry : Prop :=
  (∀ (s : State) (name : Bytes),
    let n := s.lat.r0.toNat
    let k := n + s.lat.r1.toNat
    let s1 := { s with inq := s.inq.drop k }
    s.zip.isOpen = true → n ≤ 65535 → (s.lat.r3 = 0 ∨ s.lat.r3 = 8) →
    (CountedRefusals .zipAddItem 0xA2 k s ∧ CountedRefusals .zipAddFile 0xA3 k s) ∧
    (overInCap s k = false → k ≤ s.inq.length →
      (nameNorm s.params (s.inq.take n) = some name → hasName s.zip.entries name = false →
        let t := complete { s1 with
          zip := { s.zip with entries := s.zip.entries ++ [{
            name := name, extAttr := s.lat.r2, method := s.lat.r3.toNat, level := s.zip.defLevel
            payload := (s.inq.take k).drop n, pcomp := false, crc := 0, csize := 0, usize := 0, loff := 0 }] }
          res := { s.res with r0 := BitVec.ofNat 32 s.zip.entries.length } }
        exec .zipAddItem s = .next t ∧ exec .zipAddFile s = .next t) ∧
      (nameNorm s.params (s.inq.take n) = some name → hasName s.zip.entries name = true →
        exec .zipAddItem s = .next (raiseErr .dupName 0xA2 s1) ∧ exec .zipAddFile s = .next (raiseErr .dupName 0xA3 s1)) ∧
      (nameNorm s.params (s.inq.take n) = none →
        exec .zipAddItem s = .next (raiseErr .illegalName 0xA2 s1) ∧
        exec .zipAddFile s = .next (raiseErr .illegalName 0xA3 s1)))) ∧
  (∀ (s : State) (raw : Bytes),
    let n := s.lat.r0.toNat
    let name := if raw.getLast? = some 0x2F then raw else raw ++ [0x2F]
    let s1 := { s with inq := s.inq.drop n }
    s.zip.isOpen = true → n ≤ 65535 → s.lat.r1 = 0 →
    CountedRefusals .zipAddDir 0xA4 n s ∧
    (overInCap s n = false → n ≤ s.inq.length →
      (nameNorm s.params (s.inq.take n) = some raw → name.length ≤ 65535 → hasName s.zip.entries name = false →
        exec .zipAddDir s = .next (complete { s1 with
          zip := { s.zip with entries := s.zip.entries ++ [{
            name := name, extAttr := s.lat.r2, method := 0, level := s.zip.defLevel, payload := [], pcomp := false
            crc := 0, csize := 0, usize := 0, loff := 0 }] }
          res := { s.res with r0 := BitVec.ofNat 32 s.zip.entries.length } })) ∧
      (nameNorm s.params (s.inq.take n) = some raw → name.length ≤ 65535 → hasName s.zip.entries name = true →
        exec .zipAddDir s = .next (raiseErr .dupName 0xA4 s1)) ∧
      (nameNorm s.params (s.inq.take n) = some raw → 65535 < name.length →
        exec .zipAddDir s = .next (raiseErr .illegalName 0xA4 s1)) ∧
      (nameNorm s.params (s.inq.take n) = none → exec .zipAddDir s = .next (raiseErr .illegalName 0xA4 s1)))) ∧
  (∀ (p : Params) (raw : Bytes),
    let n := (nameHook p raw).map (fun b => if b = 0x5C then 0x2F else b)
    (n ≠ [] → n.length ≤ 65535 → (0x3A : Byte) ∉ n → nameNorm p raw = some n) ∧
    ((n = [] ∨ 65535 < n.length ∨ (0x3A : Byte) ∈ n) → nameNorm p raw = none) ∧
    (p.hook = [] → nameHook p raw = raw))

/-- On an open archive and an existing entry: ZIP_UPDATE replaces its data by ARG1 bytes of IN and clears PCOMP, CRC and the sizes,
keeping name, method, level and offset; with too few bytes ZIP_UPDATE holds or raises SHORT_INPUT, above IN_CAPACITY BAD_ARG;
ZIP_REMOVE takes the entry out and keeps the others in order; ZIP_SET_ITEM_LEVEL with a level at most 9 that needs no decode
changes only its level. Nothing else changes. (derived: R146, R505, R506, R510, R514) -/
def Obligations.ChangingAnEntry : Prop :=
  ∀ (s : State) (e : Entry), s.zip.isOpen = true → s.zip.entries[s.lat.r0.toNat]? = some e →
    (overInCap s s.lat.r1.toNat = false → s.lat.r1.toNat ≤ s.inq.length →
      exec .zipUpdate s = .next (complete { s with
        inq := s.inq.drop s.lat.r1.toNat
        zip := { s.zip with entries := setAt s.zip.entries s.lat.r0.toNat { e with
          payload := s.inq.take s.lat.r1.toNat, pcomp := false, crc := 0, csize := 0, usize := 0 } } })) ∧
    CountedRefusals .zipUpdate 0xA5 s.lat.r1.toNat s ∧
    (exec .zipRemove s = .next (complete { s with zip := { s.zip with
      entries := s.zip.entries.take s.lat.r0.toNat ++ s.zip.entries.drop (s.lat.r0.toNat + 1) } })) ∧
    (s.infl.phase.active = false → s.lat.r1.toNat ≤ 9 → (e.pcomp = false ∨ e.level = s.lat.r1.toNat) →
      exec .zipSetItemLevel s = .next (complete { s with zip := { s.zip with
        entries := setAt s.zip.entries s.lat.r0.toNat { e with level := s.lat.r1.toNat } } })) ∧
    (s.infl.phase.active = false → 9 < s.lat.r1.toNat →
      exec .zipSetItemLevel s = .next (raiseErr .badArg 0xAB s))

/-- On an open archive: ZIP_FIND of ARG0 bytes of IN gives the index of the entry with the name that NAME_HOOK makes of them,
separators turned, or 0xFFFFFFFF where none has it, and with too few bytes holds or raises SHORT_INPUT, above IN_CAPACITY
BAD_ARG; ZIP_ITEM_INFO of an entry gives its sizes, CRC and method, or attributes, offset, name length and level, by the
selector, and a selector above 1 is BAD_ARG; ZIP_ITEM_NAME pushes its name and gives its length. NAME_HOOK is a parameter of
R11, the model's table over the identity (log 9). (derived: R11, R146, R507, R508, R509) -/
def Obligations.ReadingTheDirectory : Prop :=
  (∀ s : State,
    let n := s.lat.r0.toNat
    let key := (nameHook s.params (s.inq.take n)).map (fun b => if b = 0x5C then (0x2F : Byte) else b)
    s.zip.isOpen = true → n ≤ 65535 →
    CountedRefusals .zipFind 0xA7 n s ∧
    (overInCap s n = false → n ≤ s.inq.length →
      (∀ i : Nat, (∃ e, s.zip.entries[i]? = some e ∧ e.name = key) →
        (∀ j e, j < i → s.zip.entries[j]? = some e → e.name ≠ key) →
        exec .zipFind s = .next (complete { s with
          inq := s.inq.drop n, res := { s.res with r0 := BitVec.ofNat 32 i } })) ∧
      ((∀ e ∈ s.zip.entries, e.name ≠ key) →
        exec .zipFind s = .next (complete { s with
          inq := s.inq.drop n, res := { s.res with r0 := 0xFFFFFFFF } })))) ∧
  (∀ (s : State) (e : Entry), s.zip.isOpen = true → s.zip.entries[s.lat.r0.toNat]? = some e →
    (s.lat.r1 = 0 → exec .zipItemInfo s = .next (complete { s with res := ⟨e.usize, e.csize, e.crc,
      BitVec.ofNat 32 (e.method ||| (if e.pcomp = true then 256 else 0))⟩ })) ∧
    (s.lat.r1 = 1 → exec .zipItemInfo s = .next (complete { s with res := ⟨e.extAttr, e.loff,
      BitVec.ofNat 32 e.name.length, BitVec.ofNat 32 e.level⟩ })) ∧
    (1 < s.lat.r1.toNat → exec .zipItemInfo s = .next (raiseErr .badArg 0xA9 s)) ∧
    (outRoom s e.name.length = e.name.length → exec .zipItemName s = .next (complete { s with
      outq := s.outq ++ e.name, res := { s.res with r0 := BitVec.ofNat 32 e.name.length } })))

/-- On an open archive with the decompressor inactive, ZIP_ITEM_DATA of an entry with plain data pushes it into OUT, which has room,
and gives its length and CRC-32, changing nothing else; that INFL_STATE then stays as it was, DONE and ERROR included, is the
model's reading of R531 where R530's Flags line says IDLE (log 35), and so is that RES1 is written, as R530 says and R143's
table does not (log 37). For an entry whose payload is the raw stream 03 00: with a stored CRC of 0 or CRC_CHECK off it decodes
to nothing, the entry then holds the empty data uncompressed, RES0 and RES1 are 0 and INFL_STATE is IDLE; with CRC_CHECK on and
another CRC it raises CRC_MISMATCH with the index, the entry unchanged and INFL_STATE IDLE. (derived: R530, R531, R606, R610) -/
def Obligations.ReadingAnEntrysData : Prop :=
  ∀ (s : State) (e : Entry), s.zip.isOpen = true → s.infl.phase.active = false →
    s.zip.entries[s.lat.r0.toNat]? = some e →
    (e.pcomp = false → outRoom s e.payload.length = e.payload.length → exec .zipItemData s = .next (complete { s with
      outq := s.outq ++ e.payload
      res := { s.res with r0 := BitVec.ofNat 32 e.payload.length, r1 := crc 0 e.payload } })) ∧
    (e.pcomp = true → e.payload = [0x03, 0x00] → (ctrlCrcCheck s = false ∨ e.crc = 0) →
      ∃ (br : Br) (infl : Infl), infl.phase = .idle ∧ exec .zipItemData s = .next (complete { s with
        br := br
        infl := infl
        d0 := ⟨fixedLL, true⟩
        d1 := ⟨fixedD, true⟩
        zip := { s.zip with
          entries := setAt s.zip.entries s.lat.r0.toNat { e with payload := [], pcomp := false }
          dbuf := [] }
        res := { s.res with r0 := 0, r1 := 0 } })) ∧
    (e.pcomp = true → e.payload = [0x03, 0x00] → ctrlCrcCheck s = true → e.crc ≠ 0 →
      ∃ (br : Br) (infl : Infl), infl.phase = .idle ∧ exec .zipItemData s = .next (raiseErr .crcMismatch s.lat.r0
        (zipIdle { s with br := br, infl := infl, d0 := ⟨fixedLL, true⟩, d1 := ⟨fixedD, true⟩ })))

/-- ZIP_OPEN of the 22-byte end record with IN ended opens an empty archive; before IN_END it discards the old archive and holds.
With no stream in progress and room in OUT, ZIP_SAVE of no entries pushes the 22-byte end record with RES0 = 22; ZIP_SAVE of one
entry with plain data and method 0 pushes its local header, its data, its directory record and the end record, RES0 is their
length, and the entry then holds the CRC, the sizes and the offset written. (derived: R520, R521, R522, R540, R542, R543, R544,
R545) -/
def Obligations.OpeningAndSavingAnArchive : Prop :=
  (∀ s : State, ctrlLevel s ≤ 9 → s.inEnd = true → s.inq = endRecord 0 0 0 →
    exec .zipOpen s = .next (complete { s with
      inq := []
      zip := { s.zip with
        entries := [], defLevel := ctrlLevel s, isOpen := true, source := [], cont := .idle, list := [] }
      res := { s.res with r0 := 0 } })) ∧
  (∀ s : State, ctrlLevel s ≤ 9 → s.inEnd = false → exec .zipOpen s = .next { s with
    wait := .inEnd
    tasks := []
    zip := { s.zip with entries := [], isOpen := false } }) ∧
  (∀ s : State, s.zip.isOpen = true → s.defl.phase.active = false → s.infl.phase.active = false →
    outRoom s 22 = 22 → s.zip.entries = [] →
    exec .zipSave s = .next (complete { s with
      outq := s.outq ++ [0x50, 0x4B, 0x05, 0x06, 0, 0, 0, 0, 0, 0, 0, 0, 0, 0, 0, 0, 0, 0, 0, 0, 0, 0]
      defl := { s.defl with phase := .idle }
      infl := { s.infl with phase := .idle }
      zip := { s.zip with sink := [], saving := false, work := [], recs := [], packed := [] }
      res := { s.res with r0 := 22 } })) ∧
  (∀ (s : State) (e : Entry), s.zip.isOpen = true → s.defl.phase.active = false → s.infl.phase.active = false →
    s.zip.entries = [e] → e.pcomp = false → e.method = 0 →
    e.name.length ≤ 65535 → e.payload.length ≤ 65535 →
    let e1 := { e with
      crc := crc 0 e.payload
      csize := BitVec.ofNat 32 e.payload.length
      usize := BitVec.ofNat 32 e.payload.length
      loff := 0 }
    let img := localHeader e1 0 ++ e.payload ++ centralRecord (e1, 0)
      ++ endRecord 1 (46 + e.name.length) (30 + e.name.length + e.payload.length)
    outRoom s img.length = img.length →
    exec .zipSave s = .next (complete { s with
      outq := s.outq ++ img
      defl := { s.defl with phase := .idle }
      infl := { s.infl with phase := .idle }
      zip := { s.zip with entries := [e1], sink := [], saving := false, work := [], recs := [], packed := [] }
      res := { s.res with r0 := BitVec.ofNat 32 img.length } }))

/-- At the end record: with zero disk numbers, equal counts and a directory that ends before the record, the parse goes on at the
directory; a disk number that is not 0 or unequal counts raise ZIP_MULTIDISK with the record's offset, and a directory that runs
past the record raises ZIP_RANGE, whose ERRINFO is a free value (log 13). At a directory record inside the image, not encrypted,
with method 0 or 8, the entry's fields are taken and the parse goes on at its local header; an encrypted one raises
ZIP_ENCRYPTED, another method ZIP_METHOD, a record that leaves the image ZIP_RANGE with the offset of the first read that does,
in the order R522 reads the fields after the signature. At a local header inside the image whose payload is inside the image and
whose name is new, the entry is appended with its payload; a name already listed raises ZIP_DUP_NAME, a header or payload that
leaves the image ZIP_RANGE. Where a directory record or a local header should stand and its signature does not, the parse raises
ZIP_BAD_CD_SIG or ZIP_BAD_LOCAL_SIG with that offset, and ZIP_RANGE with it where those four bytes leave the image. (derived:
R175, R176, R177, R522, R523, R606) -/
def Obligations.ArchiveRecordsAsTheyAreParsed : Prop :=
  (∀ (s : State) (p : Nat), s.zip.cont = .eocd p →
    let img := s.zip.source
    let single := rdLE img (p + 4) 2 = 0 ∧ rdLE img (p + 6) 2 = 0 ∧ rdLE img (p + 8) 2 = rdLE img (p + 10) 2
    (single → rdLE img (p + 16) 4 + rdLE img (p + 12) 4 ≤ p →
      exec .zipEndRecord s = .next { s with zip := { s.zip with
        list := [], cont := .dir (rdLE img (p + 16) 4) (rdLE img (p + 10) 2) } }) ∧
    (single → p < rdLE img (p + 16) 4 + rdLE img (p + 12) 4 →
      exec .zipEndRecord s = .next (raiseErr .zipRange (Config.freeInfo s.freeCtr)
        { zipIdle s with freeCtr := s.freeCtr + 1 })) ∧
    (¬ single → exec .zipEndRecord s = .next (raiseErr .zipMultidisk (BitVec.ofNat 32 p) (zipIdle s)))) ∧
  (∀ (s : State) (q n : Nat), s.zip.cont = .dir q (n + 1) →
    let img := s.zip.source
    let nl := rdLE img (q + 28) 2
    let m := rdLE img (q + 10) 2
    (q + 46 + nl ≤ img.length → rdLE img (q + 8) 2 % 2 = 0 → (m = 0 ∨ m = 8) →
      exec .zipCentralRecord s = .next { s with zip := { s.zip with
        cont := .loc q (q + 46 + nl + rdLE img (q + 30) 2 + rdLE img (q + 32) 2) n (rdLE img (q + 42) 4)
          (rdLE img (q + 20) 4) {
            name := (img.drop (q + 46)).take nl
            extAttr := BitVec.ofNat 32 (rdLE img (q + 38) 4)
            method := m
            level := ctrlLevel s
            payload := []
            pcomp := m == 8
            crc := BitVec.ofNat 32 (rdLE img (q + 16) 4)
            csize := BitVec.ofNat 32 (rdLE img (q + 20) 4)
            usize := BitVec.ofNat 32 (rdLE img (q + 24) 4)
            loff := BitVec.ofNat 32 (rdLE img (q + 42) 4) } } }) ∧
    (q + 46 + nl ≤ img.length → rdLE img (q + 8) 2 % 2 = 1 →
      exec .zipCentralRecord s = .next (raiseErr .zipEncrypted (BitVec.ofNat 32 q) (zipIdle s))) ∧
    (q + 46 + nl ≤ img.length → rdLE img (q + 8) 2 % 2 = 0 → m ≠ 0 → m ≠ 8 →
      exec .zipCentralRecord s = .next (raiseErr .zipMethod (BitVec.ofNat 32 q) (zipIdle s))) ∧
    (q + 46 ≤ img.length → img.length < q + 46 + nl →
      exec .zipCentralRecord s = .next (raiseErr .zipRange (BitVec.ofNat 32 (q + 46)) (zipIdle s))) ∧
    (img.length < q + 46 → ∃ o : Nat,
      firstShort img.length [(q + 8, 2), (q + 10, 2), (q + 16, 4), (q + 20, 4), (q + 24, 4), (q + 28, 2), (q + 30, 2),
        (q + 32, 2), (q + 38, 4), (q + 42, 4)] = some o ∧
      exec .zipCentralRecord s = .next (raiseErr .zipRange (BitVec.ofNat 32 o) (zipIdle s)))) ∧
  (∀ (s : State) (q q2 n lo cs : Nat) (e : Entry), s.zip.cont = .loc q q2 n lo cs e →
    let img := s.zip.source
    let d := lo + 30 + rdLE img (lo + 26) 2 + rdLE img (lo + 28) 2
    (lo + 30 ≤ img.length → d + cs ≤ img.length → hasName s.zip.list e.name = false →
      exec .zipLocalHeader s = .next { s with zip := { s.zip with
        list := s.zip.list ++ [{ e with payload := (img.drop d).take cs }]
        cont := .dir q2 n } }) ∧
    (lo + 30 ≤ img.length → d + cs ≤ img.length → hasName s.zip.list e.name = true →
      exec .zipLocalHeader s = .next (raiseErr .zipDupName (BitVec.ofNat 32 q) (zipIdle s))) ∧
    (lo + 30 ≤ img.length → img.length < d + cs →
      exec .zipLocalHeader s = .next (raiseErr .zipRange (BitVec.ofNat 32 d) (zipIdle s))) ∧
    (img.length < lo + 30 → exec .zipLocalHeader s = .next (raiseErr .zipRange
      (BitVec.ofNat 32 (if img.length < lo + 28 then lo + 26 else lo + 28)) (zipIdle s)))) ∧
  (∀ (s : State) (q n : Nat), s.zip.cont = .dir q (n + 1) →
    (s.zip.source.length < q + 4 → runZipParse s = .raise .zipRange (BitVec.ofNat 32 q) (zipIdle s)) ∧
    (q + 4 ≤ s.zip.source.length → rdLE s.zip.source q 4 ≠ 0x02014B50 →
      runZipParse s = .raise .zipBadCdSig (BitVec.ofNat 32 q) (zipIdle s))) ∧
  (∀ (s : State) (q q2 n lo cs : Nat) (e : Entry), s.zip.cont = .loc q q2 n lo cs e →
    (s.zip.source.length < lo + 4 → runZipParse s = .raise .zipRange (BitVec.ofNat 32 lo) (zipIdle s)) ∧
    (lo + 4 ≤ s.zip.source.length → rdLE s.zip.source lo 4 ≠ 0x04034B50 →
      runZipParse s = .raise .zipBadLocalSig (BitVec.ofNat 32 lo) (zipIdle s)))

/-- The report operation, raiseErr, which every raise ends with, writes CLASS and CODE to ERRCODE and the information to ERRINFO,
sets UERR for a UsageError and ERR for every other class, clears BUSY and the hold, and itself changes nothing else: RES0-RES3,
IN, OUT and every unit keep the values they have when it reports. What the raising command does to its phase before it (R465,
R610) is not part of it and is said by the statements on those commands. The class is fixed by the code: 1 for 0x01-0x12, 2 for
0x20-0x21, 3 for 0x30-0x35, 4 for 0x40-0x4B, 5 for 0x50-0x52. (derived: R43, R600, R601, R602, R604, R605, R607) -/
def Obligations.RaiseReportsTheError : Prop :=
  (∀ (e : Err) (info : Word) (s : State), raiseErr e info s = { s with
    errCode := BitVec.ofNat 32 (e.cls * 256 + e.code)
    errInfo := info
    err := if e.cls = 4 then s.err else true
    uerr := if e.cls = 4 then true else s.uerr
    busy := false
    wait := .none
    tasks := [] }) ∧
  (∀ e : Err,
    (e.cls = 1 ∧ 0x01 ≤ e.code ∧ e.code ≤ 0x12) ∨ (e.cls = 2 ∧ 0x20 ≤ e.code ∧ e.code ≤ 0x21) ∨
    (e.cls = 3 ∧ 0x30 ≤ e.code ∧ e.code ≤ 0x35) ∨ (e.cls = 4 ∧ 0x40 ≤ e.code ∧ e.code ≤ 0x4B ∧ e.code ≠ 0x41) ∨
    (e.cls = 5 ∧ 0x50 ≤ e.code ∧ e.code ≤ 0x52))

/-- While the compressor is active every HENC_*, BW_* and LZ_* command, and while the decompressor is active every HDEC_* and BR_*
command, is refused with UNIT_BUSY whatever its operands. ZIP_SAVE is refused so while either is active, ZIP_ITEM_DATA and
ZIP_SET_ITEM_LEVEL while the decompressor is, before the archive is looked at, as R615 lists them (log 25). On a closed archive
opcodes 0xA2 to 0xAC, when not refused so, are refused with ARCHIVE_CLOSED. With an index at or above the number of entries the
commands on an item are refused with NO_SUCH_ITEM. Only the report changes. (derived: R603, R615, R616) -/
def Obligations.BusyUnitsAndClosedArchivesRefuse : Prop :=
  ∀ (i : Instr) (s : State), (encode i).1 = .cmd →
    let opc := (encode i).2 % 256
    (s.defl.phase.active = true →
      ((0x30 ≤ opc ∧ opc ≤ 0x36) ∨ (0x50 ≤ opc ∧ opc ≤ 0x59) ∨ (0x70 ≤ opc ∧ opc ≤ 0x73) ∨
        opc = 0xAC) →
      exec i s = .next (raiseErr .unitBusy (BitVec.ofNat 32 opc) s)) ∧
    (s.infl.phase.active = true →
      ((0x40 ≤ opc ∧ opc ≤ 0x42) ∨ (0x60 ≤ opc ∧ opc ≤ 0x68) ∨
        opc = 0xA8 ∨ opc = 0xAB ∨ opc = 0xAC) →
      exec i s = .next (raiseErr .unitBusy (BitVec.ofNat 32 opc) s)) ∧
    (s.zip.isOpen = false → 0xA2 ≤ opc → opc ≤ 0xAC →
      (s.infl.phase.active = false ∨ (opc ≠ 0xA8 ∧ opc ≠ 0xAB ∧ opc ≠ 0xAC)) →
      (s.defl.phase.active = false ∨ opc ≠ 0xAC) →
      exec i s = .next (raiseErr .archiveClosed (BitVec.ofNat 32 opc) s)) ∧
    (s.zip.isOpen = true → s.infl.phase.active = false →
      (opc = 0xA5 ∨ opc = 0xA6 ∨ opc = 0xA8 ∨ opc = 0xA9 ∨ opc = 0xAA ∨ opc = 0xAB) →
      s.zip.entries.length ≤ s.lat.r0.toNat →
      exec i s = .next (raiseErr .noSuchItem (BitVec.ofNat 32 opc) s))

/-- From every state whose window, decompressor window and hash chains are in canonical form, whatever step the host or the engine
takes, they are in canonical form after it. (derived: R51, R54, R72, R378) -/
def Obligations.EveryStepKeepsMemoryCanonical : Prop :=
  ∀ s t : State, s.memOk → step s = .next t → t.memOk

/-- From every state with BR_N below 32 and BR_ACC[31:BR_N] zero, every step, whichever commands, symbols and holds it runs through,
leaves BR_N below 32 and those bits zero. (derived: R88, R340) -/
def Obligations.EveryStepKeepsTheReaderBounded : Prop :=
  ∀ s t : State, s.readerOk → step s = .next t → t.readerOk

/-- From every state with BW_N at most 7 and PENDING, OUT and IN each within its capacity, every step leaves them so. That IN stays
so at a push into a full IN is the model's choice (log 5). (derived: R16, R85, R95, R331) -/
def Obligations.EveryStepKeepsBuffersWithinCapacity : Prop :=
  ∀ s t : State, s.buffersOk → step s = .next t → t.buffersOk

/-- From every state in which BUSY = 0 implies no hold and no remaining work, every step leaves such a state: WAIT_IN and WAIT_OUT
are never set without BUSY. (derived: R42, R202, R607) -/
def Obligations.IdleMeansNoHoldAndNoWork : Prop :=
  ∀ s t : State, s.idleOk → step s = .next t → t.idleOk

/-- From every state in which no two entries share a name (in the archive, in the list ZIP_OPEN is building, and among the entries
ZIP_SAVE has written and has still to write), every step leaves such a state. (derived: R91, R502, R522, R545) -/
def Obligations.EntryNamesStayDistinct : Prop :=
  ∀ s t : State, s.namesOk → step s = .next t → t.namesOk

/-- State.reset has its memories in canonical form, the reader and the buffers within bounds, no hold and no work, and distinct
names. (derived: R700) -/
def Obligations.ResetStateMeetsTheInvariants : Prop :=
  State.reset.memOk ∧ State.reset.readerOk ∧ State.reset.buffersOk ∧ State.reset.idleOk ∧ State.reset.namesOk
end

