-- ==== Sys2Proof/Laws/Memory.lean ====
section
/-! SUPPORT. The sparse arrays: a read after a write, and the canonical form that every memory operation keeps. -/

namespace Sys2Proof.Machine

variable {α : Type} [DecidableEq α]

/-- Weakening of the lower bound. -/
theorem cellsFrom_le (d : α) {lo lo' : Nat} {m : List (Nat × α)} (h : lo' ≤ lo) (w : cellsFrom d lo m = true) :
    cellsFrom d lo' m = true := by
  cases m with
  | nil => rfl
  | cons c m =>
    simp only [cellsFrom, Bool.and_eq_true, decide_eq_true_eq] at w ⊢
    exact ⟨⟨by omega, w.1.2⟩, w.2⟩

/-- An index below the lower bound is unlisted. -/
theorem cellGet_below (d : α) {k lo : Nat} {m : List (Nat × α)} (h : k < lo) (w : cellsFrom d lo m = true) :
    cellGet d m k = d := by
  induction m generalizing lo with
  | nil => rfl
  | cons c m ih =>
    simp only [cellsFrom, Bool.and_eq_true, decide_eq_true_eq] at w
    simp only [cellGet]
    rw [if_neg (by omega)]
    exact ih (lo := c.1 + 1) (by omega) w.2

/-- A write keeps the canonical form. -/
theorem cellsFrom_cellSet (d : α) {lo k : Nat} (v : α) {m : List (Nat × α)} (h : lo ≤ k)
    (w : cellsFrom d lo m = true) : cellsFrom d lo (cellSet d m k v) = true := by
  induction m generalizing lo with
  | nil =>
    by_cases hv : v = d <;> simp [cellSet, hv, cellsFrom, h]
  | cons c m ih =>
    simp only [cellsFrom, Bool.and_eq_true, decide_eq_true_eq] at w
    obtain ⟨⟨hlo, hd⟩, hm⟩ := w
    simp only [cellSet]
    by_cases h1 : c.1 = k
    · rw [if_pos h1]
      by_cases hv : v = d
      · rw [if_pos hv]; exact cellsFrom_le d (by omega) hm
      · rw [if_neg hv]
        simp only [cellsFrom, Bool.and_eq_true, decide_eq_true_eq]
        exact ⟨⟨h, hv⟩, by rw [← h1]; exact hm⟩
    · rw [if_neg h1]
      by_cases h2 : k < c.1
      · rw [if_pos h2]
        by_cases hv : v = d
        · rw [if_pos hv]
          simp only [cellsFrom, Bool.and_eq_true, decide_eq_true_eq]
          exact ⟨⟨hlo, hd⟩, hm⟩
        · rw [if_neg hv]
          simp only [cellsFrom, Bool.and_eq_true, decide_eq_true_eq]
          exact ⟨⟨h, hv⟩, ⟨by omega, hd⟩, hm⟩
      · rw [if_neg h2]
        simp only [cellsFrom, Bool.and_eq_true, decide_eq_true_eq]
        exact ⟨⟨hlo, hd⟩, ih (by omega) hm⟩

/-- A read after a write to the same index gives the value written. -/
theorem cellGet_cellSet_same (d : α) (k : Nat) (v : α) {lo : Nat} {m : List (Nat × α)} (w : cellsFrom d lo m = true) :
    cellGet d (cellSet d m k v) k = v := by
  induction m generalizing lo with
  | nil => by_cases hv : v = d <;> simp [cellSet, hv, cellGet]
  | cons c m ih =>
    simp only [cellsFrom, Bool.and_eq_true, decide_eq_true_eq] at w
    simp only [cellSet]
    by_cases h1 : c.1 = k
    · rw [if_pos h1]
      by_cases hv : v = d
      · rw [if_pos hv, hv]; exact cellGet_below d (lo := c.1 + 1) (by omega) w.2
      · simp [hv, cellGet]
    · rw [if_neg h1]
      by_cases h2 : k < c.1
      · rw [if_pos h2]
        by_cases hv : v = d
        · rw [if_pos hv, hv]
          simp only [cellGet, if_neg h1]
          exact cellGet_below d (lo := c.1 + 1) (by omega) w.2
        · simp [hv, cellGet]
      · rw [if_neg h2]
        simp only [cellGet, if_neg h1]
        exact ih w.2

/-- A write leaves every other index alone, in any list. -/
theorem cellGet_cellSet_other (d : α) {k j : Nat} (v : α) (m : List (Nat × α)) (h : j ≠ k) :
    cellGet d (cellSet d m k v) j = cellGet d m j := by
  induction m with
  | nil => by_cases hv : v = d <;> simp [cellSet, hv, cellGet, Ne.symm h]
  | cons c m ih =>
    simp only [cellSet]
    by_cases h1 : c.1 = k
    · rw [if_pos h1]
      by_cases hv : v = d
      · rw [if_pos hv]; simp only [cellGet]; rw [if_neg (by omega)]
      · rw [if_neg hv]; simp only [cellGet]; rw [if_neg (Ne.symm h), if_neg (by omega)]
    · rw [if_neg h1]
      by_cases h2 : k < c.1
      · rw [if_pos h2]
        by_cases hv : v = d
        · rw [if_pos hv]
        · rw [if_neg hv]; simp only [cellGet, if_neg (Ne.symm h)]
      · rw [if_neg h2]; simp only [cellGet, ih]

/-- Writing a byte string keeps the canonical form. -/
theorem memory_wf_cellPut {m : List Host.Cell} (k : Nat) (bs : Bytes) (w : Memory.wf m = true) :
    Memory.wf (cellPut m k bs) = true := by
  induction bs generalizing m k with
  | nil => exact w
  | cons b bs ih => exact ih (k + 1) (cellsFrom_cellSet 0 b (Nat.zero_le k) w)

/-- Filtering keeps the canonical form. -/
theorem cellsFrom_filter (d : α) (p : Nat × α → Bool) {lo : Nat} {m : List (Nat × α)} (w : cellsFrom d lo m = true) :
    cellsFrom d lo (m.filter p) = true := by
  induction m generalizing lo with
  | nil => rfl
  | cons c m ih =>
    simp only [cellsFrom, Bool.and_eq_true, decide_eq_true_eq] at w
    simp only [List.filter_cons]
    split
    · simp only [cellsFrom, Bool.and_eq_true, decide_eq_true_eq]
      exact ⟨w.1, ih w.2⟩
    · exact cellsFrom_le d (by omega) (ih w.2)

/-- A canonical list whose indices are at least lo is canonical from lo on. -/
theorem cellsFrom_raise (d : α) {lo lo' : Nat} {m : List (Nat × α)} (w : cellsFrom d lo m = true)
    (h : ∀ c ∈ m, lo' ≤ c.1) : cellsFrom d lo' m = true := by
  cases m with
  | nil => rfl
  | cons c m =>
    simp only [cellsFrom, Bool.and_eq_true, decide_eq_true_eq] at w ⊢
    exact ⟨⟨h c (by simp), w.1.2⟩, w.2⟩

/-- Two canonical lists, the second wholly above the first. -/
theorem cellsFrom_append (d : α) {lo hi : Nat} {m n : List (Nat × α)} (wm : cellsFrom d lo m = true)
    (wn : cellsFrom d hi n = true) (hlo : lo ≤ hi) (h : ∀ c ∈ m, c.1 < hi) : cellsFrom d lo (m ++ n) = true := by
  induction m generalizing lo with
  | nil => exact cellsFrom_le d hlo wn
  | cons c m ih =>
    simp only [cellsFrom, Bool.and_eq_true, decide_eq_true_eq] at wm
    simp only [List.cons_append, cellsFrom, Bool.and_eq_true, decide_eq_true_eq]
    exact ⟨wm.1, ih wm.2 (h c (by simp)) (fun x hx => h x (by simp [hx]))⟩

/-- Moving every index down by w, where none is below w. -/
theorem cellsFrom_down (d : α) (w : Nat) {lo : Nat} {m : List (Nat × α)} (h : cellsFrom d (lo + w) m = true) :
    cellsFrom d lo (m.map (fun c => (c.1 - w, c.2))) = true := by
  induction m generalizing lo with
  | nil => rfl
  | cons c m ih =>
    simp only [cellsFrom, Bool.and_eq_true, decide_eq_true_eq] at h
    simp only [List.map_cons, cellsFrom, Bool.and_eq_true, decide_eq_true_eq]
    exact ⟨⟨by omega, h.1.2⟩, ih (cellsFrom_le d (by omega) h.2)⟩

/-- The move of the window's upper half keeps the canonical form. -/
theorem memory_wf_slideWin {m : List Host.Cell} (w : Memory.wf m = true) : Memory.wf (slideWin m) = true := by
  have up : cellsFrom (0 : Byte) Config.wSize (m.filter (fun c => decide (Config.wSize ≤ c.1))) = true :=
    cellsFrom_raise 0 (cellsFrom_filter 0 _ w) (by intro c hc; simpa using (List.mem_filter.1 hc).2)
  have low := cellsFrom_filter (0 : Byte) (fun c => decide (c.1 < Config.winCap)) up
  refine cellsFrom_append 0 (hi := Config.wSize) (cellsFrom_down 0 Config.wSize (lo := 0) (by simpa using low)) up
    (Nat.zero_le _) ?_
  intro c hc
  obtain ⟨a, ha, rfl⟩ := List.mem_map.1 hc
  have hc : a.1 < 65536 := of_decide_eq_true (List.mem_filter.1 ha).2
  show a.1 - 32768 < 32768
  omega

/-- Lowering every value by w keeps the canonical form where every value is above w. -/
theorem cellsFrom_lower (w : Nat) {lo : Nat} {l : List (Nat × Nat)} (h : cellsFrom 0 lo l = true)
    (hv : ∀ c ∈ l, w < c.2) : cellsFrom 0 lo (l.map (fun c => (c.1, c.2 - w))) = true := by
  induction l generalizing lo with
  | nil => rfl
  | cons c l ih =>
    simp only [cellsFrom, Bool.and_eq_true, decide_eq_true_eq] at h
    simp only [List.map_cons, cellsFrom, Bool.and_eq_true, decide_eq_true_eq]
    exact ⟨⟨h.1.1, by have := hv c (by simp); omega⟩, ih h.2 (fun x hx => hv x (by simp [hx]))⟩

/-- The rebasing of HEAD and PREV keeps the canonical form. -/
theorem chain_wf_slideChain {m : List (Nat × Nat)} (w : Chain.wf m = true) : Chain.wf (slideChain m) = true :=
  cellsFrom_lower Config.wSize (cellsFrom_filter 0 _ w) (by intro c hc; simpa using (List.mem_filter.1 hc).2)

/-- Reset memory is canonical. -/
theorem reset_memory_wf : Memory.wf State.reset.lz.win = true ∧ Memory.wf State.reset.infl.owin = true ∧
    Chain.wf State.reset.lz.head = true ∧ Chain.wf State.reset.lz.prev = true := by decide

/-- Replacing an element keeps the length. -/
@[simp] theorem setAt_length {β : Type} (l : List β) (i : Nat) (v : β) : (setAt l i v).length = l.length := by
  induction l generalizing i with
  | nil => rfl
  | cons x xs ih => cases i <;> simp [setAt, ih]

end Sys2Proof.Machine
end

