-- ==== Sys2Proof/Laws/State.lean ====
section
/-! SUPPORT. The fields of the state after each named update: one lemma a field, so that no proof unfolds a record update. -/

namespace Sys2Proof.Machine

/-! ### complete -/

@[simp] theorem complete_ctrl (s : State) : (complete s).ctrl = s.ctrl := rfl
@[simp] theorem complete_busy (s : State) : (complete s).busy = false := rfl
@[simp] theorem complete_err (s : State) : (complete s).err = s.err := rfl
@[simp] theorem complete_uerr (s : State) : (complete s).uerr = s.uerr := rfl
@[simp] theorem complete_drop (s : State) : (complete s).drop = s.drop := rfl
@[simp] theorem complete_wait (s : State) : (complete s).wait = .none := rfl
@[simp] theorem complete_errCode (s : State) : (complete s).errCode = s.errCode := rfl
@[simp] theorem complete_errInfo (s : State) : (complete s).errInfo = s.errInfo := rfl
@[simp] theorem complete_inq (s : State) : (complete s).inq = s.inq := rfl
@[simp] theorem complete_inEnd (s : State) : (complete s).inEnd = s.inEnd := rfl
@[simp] theorem complete_outq (s : State) : (complete s).outq = s.outq := rfl
@[simp] theorem complete_adler (s : State) : (complete s).adler = s.adler := rfl
@[simp] theorem complete_crc (s : State) : (complete s).crc = s.crc := rfl
@[simp] theorem complete_arg (s : State) : (complete s).arg = s.arg := rfl
@[simp] theorem complete_res (s : State) : (complete s).res = s.res := rfl
@[simp] theorem complete_lat (s : State) : (complete s).lat = s.lat := rfl
@[simp] theorem complete_latCmd (s : State) : (complete s).latCmd = s.latCmd := rfl
@[simp] theorem complete_lz (s : State) : (complete s).lz = s.lz := rfl
@[simp] theorem complete_defl (s : State) : (complete s).defl = s.defl := rfl
@[simp] theorem complete_t0 (s : State) : (complete s).t0 = s.t0 := rfl
@[simp] theorem complete_t1 (s : State) : (complete s).t1 = s.t1 := rfl
@[simp] theorem complete_t2 (s : State) : (complete s).t2 = s.t2 := rfl
@[simp] theorem complete_d0 (s : State) : (complete s).d0 = s.d0 := rfl
@[simp] theorem complete_d1 (s : State) : (complete s).d1 = s.d1 := rfl
@[simp] theorem complete_d2 (s : State) : (complete s).d2 = s.d2 := rfl
@[simp] theorem complete_bw (s : State) : (complete s).bw = s.bw := rfl
@[simp] theorem complete_br (s : State) : (complete s).br = s.br := rfl
@[simp] theorem complete_infl (s : State) : (complete s).infl = s.infl := rfl
@[simp] theorem complete_zip (s : State) : (complete s).zip = s.zip := rfl
@[simp] theorem complete_tasks (s : State) : (complete s).tasks = [] := rfl
@[simp] theorem complete_params (s : State) : (complete s).params = s.params := rfl
@[simp] theorem complete_host (s : State) : (complete s).host = s.host := rfl
@[simp] theorem complete_rdata (s : State) : (complete s).rdata = s.rdata := rfl
@[simp] theorem complete_freeCtr (s : State) : (complete s).freeCtr = s.freeCtr := rfl

/-! ### begun -/

@[simp] theorem begun_ctrl (s : State) : (begun s).ctrl = s.ctrl := rfl
@[simp] theorem begun_busy (s : State) : (begun s).busy = s.busy := rfl
@[simp] theorem begun_err (s : State) : (begun s).err = s.err := rfl
@[simp] theorem begun_uerr (s : State) : (begun s).uerr = s.uerr := rfl
@[simp] theorem begun_drop (s : State) : (begun s).drop = s.drop := rfl
@[simp] theorem begun_wait (s : State) : (begun s).wait = s.wait := rfl
@[simp] theorem begun_errCode (s : State) : (begun s).errCode = s.errCode := rfl
@[simp] theorem begun_errInfo (s : State) : (begun s).errInfo = s.errInfo := rfl
@[simp] theorem begun_inq (s : State) : (begun s).inq = s.inq := rfl
@[simp] theorem begun_inEnd (s : State) : (begun s).inEnd = s.inEnd := rfl
@[simp] theorem begun_outq (s : State) : (begun s).outq = s.outq := rfl
@[simp] theorem begun_adler (s : State) : (begun s).adler = s.adler := rfl
@[simp] theorem begun_crc (s : State) : (begun s).crc = s.crc := rfl
@[simp] theorem begun_arg (s : State) : (begun s).arg = s.arg := rfl
@[simp] theorem begun_res (s : State) : (begun s).res = s.res := rfl
@[simp] theorem begun_lat (s : State) : (begun s).lat = s.lat := rfl
@[simp] theorem begun_latCmd (s : State) : (begun s).latCmd = s.latCmd := rfl
@[simp] theorem begun_lz (s : State) : (begun s).lz = s.lz := rfl
@[simp] theorem begun_defl (s : State) : (begun s).defl = s.defl := rfl
@[simp] theorem begun_t0 (s : State) : (begun s).t0 = s.t0 := rfl
@[simp] theorem begun_t1 (s : State) : (begun s).t1 = s.t1 := rfl
@[simp] theorem begun_t2 (s : State) : (begun s).t2 = s.t2 := rfl
@[simp] theorem begun_d0 (s : State) : (begun s).d0 = s.d0 := rfl
@[simp] theorem begun_d1 (s : State) : (begun s).d1 = s.d1 := rfl
@[simp] theorem begun_d2 (s : State) : (begun s).d2 = s.d2 := rfl
@[simp] theorem begun_bw (s : State) : (begun s).bw = s.bw := rfl
@[simp] theorem begun_br (s : State) : (begun s).br = s.br := rfl
@[simp] theorem begun_infl (s : State) : (begun s).infl = s.infl := rfl
@[simp] theorem begun_zip (s : State) : (begun s).zip = s.zip := rfl
@[simp] theorem begun_tasks (s : State) : (begun s).tasks = [] := rfl
@[simp] theorem begun_params (s : State) : (begun s).params = s.params := rfl
@[simp] theorem begun_host (s : State) : (begun s).host = s.host := rfl
@[simp] theorem begun_rdata (s : State) : (begun s).rdata = s.rdata := rfl
@[simp] theorem begun_freeCtr (s : State) : (begun s).freeCtr = s.freeCtr := rfl

/-! ### raiseErr -/

@[simp] theorem raiseErr_ctrl (e : Err) (info : Word) (s : State) : (raiseErr e info s).ctrl = s.ctrl := rfl
@[simp] theorem raiseErr_busy (e : Err) (info : Word) (s : State) : (raiseErr e info s).busy = false := rfl
@[simp] theorem raiseErr_err (e : Err) (info : Word) (s : State) : (raiseErr e info s).err = (s.err || !e.isUsage) := rfl
@[simp] theorem raiseErr_uerr (e : Err) (info : Word) (s : State) : (raiseErr e info s).uerr = (s.uerr || e.isUsage) := rfl
@[simp] theorem raiseErr_drop (e : Err) (info : Word) (s : State) : (raiseErr e info s).drop = s.drop := rfl
@[simp] theorem raiseErr_wait (e : Err) (info : Word) (s : State) : (raiseErr e info s).wait = .none := rfl
@[simp] theorem raiseErr_errCode (e : Err) (info : Word) (s : State) : (raiseErr e info s).errCode = e.word := rfl
@[simp] theorem raiseErr_errInfo (e : Err) (info : Word) (s : State) : (raiseErr e info s).errInfo = info := rfl
@[simp] theorem raiseErr_inq (e : Err) (info : Word) (s : State) : (raiseErr e info s).inq = s.inq := rfl
@[simp] theorem raiseErr_inEnd (e : Err) (info : Word) (s : State) : (raiseErr e info s).inEnd = s.inEnd := rfl
@[simp] theorem raiseErr_outq (e : Err) (info : Word) (s : State) : (raiseErr e info s).outq = s.outq := rfl
@[simp] theorem raiseErr_adler (e : Err) (info : Word) (s : State) : (raiseErr e info s).adler = s.adler := rfl
@[simp] theorem raiseErr_crc (e : Err) (info : Word) (s : State) : (raiseErr e info s).crc = s.crc := rfl
@[simp] theorem raiseErr_arg (e : Err) (info : Word) (s : State) : (raiseErr e info s).arg = s.arg := rfl
@[simp] theorem raiseErr_res (e : Err) (info : Word) (s : State) : (raiseErr e info s).res = s.res := rfl
@[simp] theorem raiseErr_lat (e : Err) (info : Word) (s : State) : (raiseErr e info s).lat = s.lat := rfl
@[simp] theorem raiseErr_latCmd (e : Err) (info : Word) (s : State) : (raiseErr e info s).latCmd = s.latCmd := rfl
@[simp] theorem raiseErr_lz (e : Err) (info : Word) (s : State) : (raiseErr e info s).lz = s.lz := rfl
@[simp] theorem raiseErr_defl (e : Err) (info : Word) (s : State) : (raiseErr e info s).defl = s.defl := rfl
@[simp] theorem raiseErr_t0 (e : Err) (info : Word) (s : State) : (raiseErr e info s).t0 = s.t0 := rfl
@[simp] theorem raiseErr_t1 (e : Err) (info : Word) (s : State) : (raiseErr e info s).t1 = s.t1 := rfl
@[simp] theorem raiseErr_t2 (e : Err) (info : Word) (s : State) : (raiseErr e info s).t2 = s.t2 := rfl
@[simp] theorem raiseErr_d0 (e : Err) (info : Word) (s : State) : (raiseErr e info s).d0 = s.d0 := rfl
@[simp] theorem raiseErr_d1 (e : Err) (info : Word) (s : State) : (raiseErr e info s).d1 = s.d1 := rfl
@[simp] theorem raiseErr_d2 (e : Err) (info : Word) (s : State) : (raiseErr e info s).d2 = s.d2 := rfl
@[simp] theorem raiseErr_bw (e : Err) (info : Word) (s : State) : (raiseErr e info s).bw = s.bw := rfl
@[simp] theorem raiseErr_br (e : Err) (info : Word) (s : State) : (raiseErr e info s).br = s.br := rfl
@[simp] theorem raiseErr_infl (e : Err) (info : Word) (s : State) : (raiseErr e info s).infl = s.infl := rfl
@[simp] theorem raiseErr_zip (e : Err) (info : Word) (s : State) : (raiseErr e info s).zip = s.zip := rfl
@[simp] theorem raiseErr_tasks (e : Err) (info : Word) (s : State) : (raiseErr e info s).tasks = [] := rfl
@[simp] theorem raiseErr_params (e : Err) (info : Word) (s : State) : (raiseErr e info s).params = s.params := rfl
@[simp] theorem raiseErr_host (e : Err) (info : Word) (s : State) : (raiseErr e info s).host = s.host := rfl
@[simp] theorem raiseErr_rdata (e : Err) (info : Word) (s : State) : (raiseErr e info s).rdata = s.rdata := rfl
@[simp] theorem raiseErr_freeCtr (e : Err) (info : Word) (s : State) : (raiseErr e info s).freeCtr = s.freeCtr := rfl

/-! ### setRes -/

@[simp] theorem setRes_ctrl (ws : List (Nat × Word)) (s : State) : (setRes ws s).ctrl = s.ctrl := rfl
@[simp] theorem setRes_busy (ws : List (Nat × Word)) (s : State) : (setRes ws s).busy = s.busy := rfl
@[simp] theorem setRes_err (ws : List (Nat × Word)) (s : State) : (setRes ws s).err = s.err := rfl
@[simp] theorem setRes_uerr (ws : List (Nat × Word)) (s : State) : (setRes ws s).uerr = s.uerr := rfl
@[simp] theorem setRes_drop (ws : List (Nat × Word)) (s : State) : (setRes ws s).drop = s.drop := rfl
@[simp] theorem setRes_wait (ws : List (Nat × Word)) (s : State) : (setRes ws s).wait = s.wait := rfl
@[simp] theorem setRes_errCode (ws : List (Nat × Word)) (s : State) : (setRes ws s).errCode = s.errCode := rfl
@[simp] theorem setRes_errInfo (ws : List (Nat × Word)) (s : State) : (setRes ws s).errInfo = s.errInfo := rfl
@[simp] theorem setRes_inq (ws : List (Nat × Word)) (s : State) : (setRes ws s).inq = s.inq := rfl
@[simp] theorem setRes_inEnd (ws : List (Nat × Word)) (s : State) : (setRes ws s).inEnd = s.inEnd := rfl
@[simp] theorem setRes_outq (ws : List (Nat × Word)) (s : State) : (setRes ws s).outq = s.outq := rfl
@[simp] theorem setRes_adler (ws : List (Nat × Word)) (s : State) : (setRes ws s).adler = s.adler := rfl
@[simp] theorem setRes_crc (ws : List (Nat × Word)) (s : State) : (setRes ws s).crc = s.crc := rfl
@[simp] theorem setRes_arg (ws : List (Nat × Word)) (s : State) : (setRes ws s).arg = s.arg := rfl
@[simp] theorem setRes_res (ws : List (Nat × Word)) (s : State) : (setRes ws s).res = ws.foldl (fun r w => r.set w.1 w.2) s.res := rfl
@[simp] theorem setRes_lat (ws : List (Nat × Word)) (s : State) : (setRes ws s).lat = s.lat := rfl
@[simp] theorem setRes_latCmd (ws : List (Nat × Word)) (s : State) : (setRes ws s).latCmd = s.latCmd := rfl
@[simp] theorem setRes_lz (ws : List (Nat × Word)) (s : State) : (setRes ws s).lz = s.lz := rfl
@[simp] theorem setRes_defl (ws : List (Nat × Word)) (s : State) : (setRes ws s).defl = s.defl := rfl
@[simp] theorem setRes_t0 (ws : List (Nat × Word)) (s : State) : (setRes ws s).t0 = s.t0 := rfl
@[simp] theorem setRes_t1 (ws : List (Nat × Word)) (s : State) : (setRes ws s).t1 = s.t1 := rfl
@[simp] theorem setRes_t2 (ws : List (Nat × Word)) (s : State) : (setRes ws s).t2 = s.t2 := rfl
@[simp] theorem setRes_d0 (ws : List (Nat × Word)) (s : State) : (setRes ws s).d0 = s.d0 := rfl
@[simp] theorem setRes_d1 (ws : List (Nat × Word)) (s : State) : (setRes ws s).d1 = s.d1 := rfl
@[simp] theorem setRes_d2 (ws : List (Nat × Word)) (s : State) : (setRes ws s).d2 = s.d2 := rfl
@[simp] theorem setRes_bw (ws : List (Nat × Word)) (s : State) : (setRes ws s).bw = s.bw := rfl
@[simp] theorem setRes_br (ws : List (Nat × Word)) (s : State) : (setRes ws s).br = s.br := rfl
@[simp] theorem setRes_infl (ws : List (Nat × Word)) (s : State) : (setRes ws s).infl = s.infl := rfl
@[simp] theorem setRes_zip (ws : List (Nat × Word)) (s : State) : (setRes ws s).zip = s.zip := rfl
@[simp] theorem setRes_tasks (ws : List (Nat × Word)) (s : State) : (setRes ws s).tasks = s.tasks := rfl
@[simp] theorem setRes_params (ws : List (Nat × Word)) (s : State) : (setRes ws s).params = s.params := rfl
@[simp] theorem setRes_host (ws : List (Nat × Word)) (s : State) : (setRes ws s).host = s.host := rfl
@[simp] theorem setRes_rdata (ws : List (Nat × Word)) (s : State) : (setRes ws s).rdata = s.rdata := rfl
@[simp] theorem setRes_freeCtr (ws : List (Nat × Word)) (s : State) : (setRes ws s).freeCtr = s.freeCtr := rfl

/-! ### clearWait -/

@[simp] theorem clearWait_ctrl (s : State) : (clearWait s).ctrl = s.ctrl := rfl
@[simp] theorem clearWait_busy (s : State) : (clearWait s).busy = s.busy := rfl
@[simp] theorem clearWait_err (s : State) : (clearWait s).err = s.err := rfl
@[simp] theorem clearWait_uerr (s : State) : (clearWait s).uerr = s.uerr := rfl
@[simp] theorem clearWait_drop (s : State) : (clearWait s).drop = s.drop := rfl
@[simp] theorem clearWait_wait (s : State) : (clearWait s).wait = .none := rfl
@[simp] theorem clearWait_errCode (s : State) : (clearWait s).errCode = s.errCode := rfl
@[simp] theorem clearWait_errInfo (s : State) : (clearWait s).errInfo = s.errInfo := rfl
@[simp] theorem clearWait_inq (s : State) : (clearWait s).inq = s.inq := rfl
@[simp] theorem clearWait_inEnd (s : State) : (clearWait s).inEnd = s.inEnd := rfl
@[simp] theorem clearWait_outq (s : State) : (clearWait s).outq = s.outq := rfl
@[simp] theorem clearWait_adler (s : State) : (clearWait s).adler = s.adler := rfl
@[simp] theorem clearWait_crc (s : State) : (clearWait s).crc = s.crc := rfl
@[simp] theorem clearWait_arg (s : State) : (clearWait s).arg = s.arg := rfl
@[simp] theorem clearWait_res (s : State) : (clearWait s).res = s.res := rfl
@[simp] theorem clearWait_lat (s : State) : (clearWait s).lat = s.lat := rfl
@[simp] theorem clearWait_latCmd (s : State) : (clearWait s).latCmd = s.latCmd := rfl
@[simp] theorem clearWait_lz (s : State) : (clearWait s).lz = s.lz := rfl
@[simp] theorem clearWait_defl (s : State) : (clearWait s).defl = s.defl := rfl
@[simp] theorem clearWait_t0 (s : State) : (clearWait s).t0 = s.t0 := rfl
@[simp] theorem clearWait_t1 (s : State) : (clearWait s).t1 = s.t1 := rfl
@[simp] theorem clearWait_t2 (s : State) : (clearWait s).t2 = s.t2 := rfl
@[simp] theorem clearWait_d0 (s : State) : (clearWait s).d0 = s.d0 := rfl
@[simp] theorem clearWait_d1 (s : State) : (clearWait s).d1 = s.d1 := rfl
@[simp] theorem clearWait_d2 (s : State) : (clearWait s).d2 = s.d2 := rfl
@[simp] theorem clearWait_bw (s : State) : (clearWait s).bw = s.bw := rfl
@[simp] theorem clearWait_br (s : State) : (clearWait s).br = s.br := rfl
@[simp] theorem clearWait_infl (s : State) : (clearWait s).infl = s.infl := rfl
@[simp] theorem clearWait_zip (s : State) : (clearWait s).zip = s.zip := rfl
@[simp] theorem clearWait_tasks (s : State) : (clearWait s).tasks = s.tasks := rfl
@[simp] theorem clearWait_params (s : State) : (clearWait s).params = s.params := rfl
@[simp] theorem clearWait_host (s : State) : (clearWait s).host = s.host := rfl
@[simp] theorem clearWait_rdata (s : State) : (clearWait s).rdata = s.rdata := rfl
@[simp] theorem clearWait_freeCtr (s : State) : (clearWait s).freeCtr = s.freeCtr := rfl

/-! ### issue -/

@[simp] theorem issue_ctrl (w : Word) (s : State) : (issue w s).ctrl = s.ctrl := rfl
@[simp] theorem issue_busy (w : Word) (s : State) : (issue w s).busy = true := rfl
@[simp] theorem issue_err (w : Word) (s : State) : (issue w s).err = false := rfl
@[simp] theorem issue_uerr (w : Word) (s : State) : (issue w s).uerr = false := rfl
@[simp] theorem issue_drop (w : Word) (s : State) : (issue w s).drop = false := rfl
@[simp] theorem issue_wait (w : Word) (s : State) : (issue w s).wait = .none := rfl
@[simp] theorem issue_errCode (w : Word) (s : State) : (issue w s).errCode = 0 := rfl
@[simp] theorem issue_errInfo (w : Word) (s : State) : (issue w s).errInfo = 0 := rfl
@[simp] theorem issue_inq (w : Word) (s : State) : (issue w s).inq = s.inq := rfl
@[simp] theorem issue_inEnd (w : Word) (s : State) : (issue w s).inEnd = s.inEnd := rfl
@[simp] theorem issue_outq (w : Word) (s : State) : (issue w s).outq = s.outq := rfl
@[simp] theorem issue_adler (w : Word) (s : State) : (issue w s).adler = s.adler := rfl
@[simp] theorem issue_crc (w : Word) (s : State) : (issue w s).crc = s.crc := rfl
@[simp] theorem issue_arg (w : Word) (s : State) : (issue w s).arg = s.arg := rfl
@[simp] theorem issue_res (w : Word) (s : State) : (issue w s).res = s.res := rfl
@[simp] theorem issue_lat (w : Word) (s : State) : (issue w s).lat = s.arg := rfl
@[simp] theorem issue_latCmd (w : Word) (s : State) : (issue w s).latCmd = w := rfl
@[simp] theorem issue_lz (w : Word) (s : State) : (issue w s).lz = s.lz := rfl
@[simp] theorem issue_defl (w : Word) (s : State) : (issue w s).defl = s.defl := rfl
@[simp] theorem issue_t0 (w : Word) (s : State) : (issue w s).t0 = s.t0 := rfl
@[simp] theorem issue_t1 (w : Word) (s : State) : (issue w s).t1 = s.t1 := rfl
@[simp] theorem issue_t2 (w : Word) (s : State) : (issue w s).t2 = s.t2 := rfl
@[simp] theorem issue_d0 (w : Word) (s : State) : (issue w s).d0 = s.d0 := rfl
@[simp] theorem issue_d1 (w : Word) (s : State) : (issue w s).d1 = s.d1 := rfl
@[simp] theorem issue_d2 (w : Word) (s : State) : (issue w s).d2 = s.d2 := rfl
@[simp] theorem issue_bw (w : Word) (s : State) : (issue w s).bw = s.bw := rfl
@[simp] theorem issue_br (w : Word) (s : State) : (issue w s).br = s.br := rfl
@[simp] theorem issue_infl (w : Word) (s : State) : (issue w s).infl = s.infl := rfl
@[simp] theorem issue_zip (w : Word) (s : State) : (issue w s).zip = s.zip := rfl
@[simp] theorem issue_tasks (w : Word) (s : State) : (issue w s).tasks = [] := rfl
@[simp] theorem issue_params (w : Word) (s : State) : (issue w s).params = s.params := rfl
@[simp] theorem issue_host (w : Word) (s : State) : (issue w s).host = s.host := rfl
@[simp] theorem issue_rdata (w : Word) (s : State) : (issue w s).rdata = s.rdata := rfl
@[simp] theorem issue_freeCtr (w : Word) (s : State) : (issue w s).freeCtr = s.freeCtr := rfl

/-! ### dropCmd -/

@[simp] theorem dropCmd_ctrl (s : State) : (dropCmd s).ctrl = s.ctrl := rfl
@[simp] theorem dropCmd_busy (s : State) : (dropCmd s).busy = s.busy := rfl
@[simp] theorem dropCmd_err (s : State) : (dropCmd s).err = s.err := rfl
@[simp] theorem dropCmd_uerr (s : State) : (dropCmd s).uerr = s.uerr := rfl
@[simp] theorem dropCmd_drop (s : State) : (dropCmd s).drop = true := rfl
@[simp] theorem dropCmd_wait (s : State) : (dropCmd s).wait = s.wait := rfl
@[simp] theorem dropCmd_errCode (s : State) : (dropCmd s).errCode = s.errCode := rfl
@[simp] theorem dropCmd_errInfo (s : State) : (dropCmd s).errInfo = s.errInfo := rfl
@[simp] theorem dropCmd_inq (s : State) : (dropCmd s).inq = s.inq := rfl
@[simp] theorem dropCmd_inEnd (s : State) : (dropCmd s).inEnd = s.inEnd := rfl
@[simp] theorem dropCmd_outq (s : State) : (dropCmd s).outq = s.outq := rfl
@[simp] theorem dropCmd_adler (s : State) : (dropCmd s).adler = s.adler := rfl
@[simp] theorem dropCmd_crc (s : State) : (dropCmd s).crc = s.crc := rfl
@[simp] theorem dropCmd_arg (s : State) : (dropCmd s).arg = s.arg := rfl
@[simp] theorem dropCmd_res (s : State) : (dropCmd s).res = s.res := rfl
@[simp] theorem dropCmd_lat (s : State) : (dropCmd s).lat = s.lat := rfl
@[simp] theorem dropCmd_latCmd (s : State) : (dropCmd s).latCmd = s.latCmd := rfl
@[simp] theorem dropCmd_lz (s : State) : (dropCmd s).lz = s.lz := rfl
@[simp] theorem dropCmd_defl (s : State) : (dropCmd s).defl = s.defl := rfl
@[simp] theorem dropCmd_t0 (s : State) : (dropCmd s).t0 = s.t0 := rfl
@[simp] theorem dropCmd_t1 (s : State) : (dropCmd s).t1 = s.t1 := rfl
@[simp] theorem dropCmd_t2 (s : State) : (dropCmd s).t2 = s.t2 := rfl
@[simp] theorem dropCmd_d0 (s : State) : (dropCmd s).d0 = s.d0 := rfl
@[simp] theorem dropCmd_d1 (s : State) : (dropCmd s).d1 = s.d1 := rfl
@[simp] theorem dropCmd_d2 (s : State) : (dropCmd s).d2 = s.d2 := rfl
@[simp] theorem dropCmd_bw (s : State) : (dropCmd s).bw = s.bw := rfl
@[simp] theorem dropCmd_br (s : State) : (dropCmd s).br = s.br := rfl
@[simp] theorem dropCmd_infl (s : State) : (dropCmd s).infl = s.infl := rfl
@[simp] theorem dropCmd_zip (s : State) : (dropCmd s).zip = s.zip := rfl
@[simp] theorem dropCmd_tasks (s : State) : (dropCmd s).tasks = s.tasks := rfl
@[simp] theorem dropCmd_params (s : State) : (dropCmd s).params = s.params := rfl
@[simp] theorem dropCmd_host (s : State) : (dropCmd s).host = s.host := rfl
@[simp] theorem dropCmd_rdata (s : State) : (dropCmd s).rdata = s.rdata := rfl
@[simp] theorem dropCmd_freeCtr (s : State) : (dropCmd s).freeCtr = s.freeCtr := rfl

/-! ### setCont -/

@[simp] theorem setCont_ctrl (c : InflCont) (s : State) : (setCont c s).ctrl = s.ctrl := rfl
@[simp] theorem setCont_busy (c : InflCont) (s : State) : (setCont c s).busy = s.busy := rfl
@[simp] theorem setCont_err (c : InflCont) (s : State) : (setCont c s).err = s.err := rfl
@[simp] theorem setCont_uerr (c : InflCont) (s : State) : (setCont c s).uerr = s.uerr := rfl
@[simp] theorem setCont_drop (c : InflCont) (s : State) : (setCont c s).drop = s.drop := rfl
@[simp] theorem setCont_wait (c : InflCont) (s : State) : (setCont c s).wait = s.wait := rfl
@[simp] theorem setCont_errCode (c : InflCont) (s : State) : (setCont c s).errCode = s.errCode := rfl
@[simp] theorem setCont_errInfo (c : InflCont) (s : State) : (setCont c s).errInfo = s.errInfo := rfl
@[simp] theorem setCont_inq (c : InflCont) (s : State) : (setCont c s).inq = s.inq := rfl
@[simp] theorem setCont_inEnd (c : InflCont) (s : State) : (setCont c s).inEnd = s.inEnd := rfl
@[simp] theorem setCont_outq (c : InflCont) (s : State) : (setCont c s).outq = s.outq := rfl
@[simp] theorem setCont_adler (c : InflCont) (s : State) : (setCont c s).adler = s.adler := rfl
@[simp] theorem setCont_crc (c : InflCont) (s : State) : (setCont c s).crc = s.crc := rfl
@[simp] theorem setCont_arg (c : InflCont) (s : State) : (setCont c s).arg = s.arg := rfl
@[simp] theorem setCont_res (c : InflCont) (s : State) : (setCont c s).res = s.res := rfl
@[simp] theorem setCont_lat (c : InflCont) (s : State) : (setCont c s).lat = s.lat := rfl
@[simp] theorem setCont_latCmd (c : InflCont) (s : State) : (setCont c s).latCmd = s.latCmd := rfl
@[simp] theorem setCont_lz (c : InflCont) (s : State) : (setCont c s).lz = s.lz := rfl
@[simp] theorem setCont_defl (c : InflCont) (s : State) : (setCont c s).defl = s.defl := rfl
@[simp] theorem setCont_t0 (c : InflCont) (s : State) : (setCont c s).t0 = s.t0 := rfl
@[simp] theorem setCont_t1 (c : InflCont) (s : State) : (setCont c s).t1 = s.t1 := rfl
@[simp] theorem setCont_t2 (c : InflCont) (s : State) : (setCont c s).t2 = s.t2 := rfl
@[simp] theorem setCont_d0 (c : InflCont) (s : State) : (setCont c s).d0 = s.d0 := rfl
@[simp] theorem setCont_d1 (c : InflCont) (s : State) : (setCont c s).d1 = s.d1 := rfl
@[simp] theorem setCont_d2 (c : InflCont) (s : State) : (setCont c s).d2 = s.d2 := rfl
@[simp] theorem setCont_bw (c : InflCont) (s : State) : (setCont c s).bw = s.bw := rfl
@[simp] theorem setCont_br (c : InflCont) (s : State) : (setCont c s).br = s.br := rfl
@[simp] theorem setCont_infl_phase (c : InflCont) (s : State) : (setCont c s).infl.phase = s.infl.phase := rfl
@[simp] theorem setCont_infl_nowrap (c : InflCont) (s : State) : (setCont c s).infl.nowrap = s.infl.nowrap := rfl
@[simp] theorem setCont_infl_owin (c : InflCont) (s : State) : (setCont c s).infl.owin = s.infl.owin := rfl
@[simp] theorem setCont_infl_owpos (c : InflCont) (s : State) : (setCont c s).infl.owpos = s.infl.owpos := rfl
@[simp] theorem setCont_infl_total (c : InflCont) (s : State) : (setCont c s).infl.total = s.infl.total := rfl
@[simp] theorem setCont_infl_final (c : InflCont) (s : State) : (setCont c s).infl.final = s.infl.final := rfl
@[simp] theorem setCont_infl_btype (c : InflCont) (s : State) : (setCont c s).infl.btype = s.infl.btype := rfl
@[simp] theorem setCont_infl_storedRem (c : InflCont) (s : State) : (setCont c s).infl.storedRem = s.infl.storedRem := rfl
@[simp] theorem setCont_infl_hlit (c : InflCont) (s : State) : (setCont c s).infl.hlit = s.infl.hlit := rfl
@[simp] theorem setCont_infl_hdist (c : InflCont) (s : State) : (setCont c s).infl.hdist = s.infl.hdist := rfl
@[simp] theorem setCont_infl_hclen (c : InflCont) (s : State) : (setCont c s).infl.hclen = s.infl.hclen := rfl
@[simp] theorem setCont_infl_cllen (c : InflCont) (s : State) : (setCont c s).infl.cllen = s.infl.cllen := rfl
@[simp] theorem setCont_infl_lenseq (c : InflCont) (s : State) : (setCont c s).infl.lenseq = s.infl.lenseq := rfl
@[simp] theorem setCont_infl_adler (c : InflCont) (s : State) : (setCont c s).infl.adler = s.infl.adler := rfl
@[simp] theorem setCont_infl_trailer (c : InflCont) (s : State) : (setCont c s).infl.trailer = s.infl.trailer := rfl
@[simp] theorem setCont_infl_consumed (c : InflCont) (s : State) : (setCont c s).infl.consumed = s.infl.consumed := rfl
@[simp] theorem setCont_infl_src (c : InflCont) (s : State) : (setCont c s).infl.src = s.infl.src := rfl
@[simp] theorem setCont_infl_cont (c : InflCont) (s : State) : (setCont c s).infl.cont = c := rfl
@[simp] theorem setCont_zip (c : InflCont) (s : State) : (setCont c s).zip = s.zip := rfl
@[simp] theorem setCont_tasks (c : InflCont) (s : State) : (setCont c s).tasks = s.tasks := rfl
@[simp] theorem setCont_params (c : InflCont) (s : State) : (setCont c s).params = s.params := rfl
@[simp] theorem setCont_host (c : InflCont) (s : State) : (setCont c s).host = s.host := rfl
@[simp] theorem setCont_rdata (c : InflCont) (s : State) : (setCont c s).rdata = s.rdata := rfl
@[simp] theorem setCont_freeCtr (c : InflCont) (s : State) : (setCont c s).freeCtr = s.freeCtr := rfl

/-! ### setInflPhase -/

@[simp] theorem setInflPhase_ctrl (p : InflPhase) (s : State) : (setInflPhase p s).ctrl = s.ctrl := rfl
@[simp] theorem setInflPhase_busy (p : InflPhase) (s : State) : (setInflPhase p s).busy = s.busy := rfl
@[simp] theorem setInflPhase_err (p : InflPhase) (s : State) : (setInflPhase p s).err = s.err := rfl
@[simp] theorem setInflPhase_uerr (p : InflPhase) (s : State) : (setInflPhase p s).uerr = s.uerr := rfl
@[simp] theorem setInflPhase_drop (p : InflPhase) (s : State) : (setInflPhase p s).drop = s.drop := rfl
@[simp] theorem setInflPhase_wait (p : InflPhase) (s : State) : (setInflPhase p s).wait = s.wait := rfl
@[simp] theorem setInflPhase_errCode (p : InflPhase) (s : State) : (setInflPhase p s).errCode = s.errCode := rfl
@[simp] theorem setInflPhase_errInfo (p : InflPhase) (s : State) : (setInflPhase p s).errInfo = s.errInfo := rfl
@[simp] theorem setInflPhase_inq (p : InflPhase) (s : State) : (setInflPhase p s).inq = s.inq := rfl
@[simp] theorem setInflPhase_inEnd (p : InflPhase) (s : State) : (setInflPhase p s).inEnd = s.inEnd := rfl
@[simp] theorem setInflPhase_outq (p : InflPhase) (s : State) : (setInflPhase p s).outq = s.outq := rfl
@[simp] theorem setInflPhase_adler (p : InflPhase) (s : State) : (setInflPhase p s).adler = s.adler := rfl
@[simp] theorem setInflPhase_crc (p : InflPhase) (s : State) : (setInflPhase p s).crc = s.crc := rfl
@[simp] theorem setInflPhase_arg (p : InflPhase) (s : State) : (setInflPhase p s).arg = s.arg := rfl
@[simp] theorem setInflPhase_res (p : InflPhase) (s : State) : (setInflPhase p s).res = s.res := rfl
@[simp] theorem setInflPhase_lat (p : InflPhase) (s : State) : (setInflPhase p s).lat = s.lat := rfl
@[simp] theorem setInflPhase_latCmd (p : InflPhase) (s : State) : (setInflPhase p s).latCmd = s.latCmd := rfl
@[simp] theorem setInflPhase_lz (p : InflPhase) (s : State) : (setInflPhase p s).lz = s.lz := rfl
@[simp] theorem setInflPhase_defl (p : InflPhase) (s : State) : (setInflPhase p s).defl = s.defl := rfl
@[simp] theorem setInflPhase_t0 (p : InflPhase) (s : State) : (setInflPhase p s).t0 = s.t0 := rfl
@[simp] theorem setInflPhase_t1 (p : InflPhase) (s : State) : (setInflPhase p s).t1 = s.t1 := rfl
@[simp] theorem setInflPhase_t2 (p : InflPhase) (s : State) : (setInflPhase p s).t2 = s.t2 := rfl
@[simp] theorem setInflPhase_d0 (p : InflPhase) (s : State) : (setInflPhase p s).d0 = s.d0 := rfl
@[simp] theorem setInflPhase_d1 (p : InflPhase) (s : State) : (setInflPhase p s).d1 = s.d1 := rfl
@[simp] theorem setInflPhase_d2 (p : InflPhase) (s : State) : (setInflPhase p s).d2 = s.d2 := rfl
@[simp] theorem setInflPhase_bw (p : InflPhase) (s : State) : (setInflPhase p s).bw = s.bw := rfl
@[simp] theorem setInflPhase_br (p : InflPhase) (s : State) : (setInflPhase p s).br = s.br := rfl
@[simp] theorem setInflPhase_infl_phase (p : InflPhase) (s : State) : (setInflPhase p s).infl.phase = p := rfl
@[simp] theorem setInflPhase_infl_nowrap (p : InflPhase) (s : State) : (setInflPhase p s).infl.nowrap = s.infl.nowrap := rfl
@[simp] theorem setInflPhase_infl_owin (p : InflPhase) (s : State) : (setInflPhase p s).infl.owin = s.infl.owin := rfl
@[simp] theorem setInflPhase_infl_owpos (p : InflPhase) (s : State) : (setInflPhase p s).infl.owpos = s.infl.owpos := rfl
@[simp] theorem setInflPhase_infl_total (p : InflPhase) (s : State) : (setInflPhase p s).infl.total = s.infl.total := rfl
@[simp] theorem setInflPhase_infl_final (p : InflPhase) (s : State) : (setInflPhase p s).infl.final = s.infl.final := rfl
@[simp] theorem setInflPhase_infl_btype (p : InflPhase) (s : State) : (setInflPhase p s).infl.btype = s.infl.btype := rfl
@[simp] theorem setInflPhase_infl_storedRem (p : InflPhase) (s : State) : (setInflPhase p s).infl.storedRem = s.infl.storedRem := rfl
@[simp] theorem setInflPhase_infl_hlit (p : InflPhase) (s : State) : (setInflPhase p s).infl.hlit = s.infl.hlit := rfl
@[simp] theorem setInflPhase_infl_hdist (p : InflPhase) (s : State) : (setInflPhase p s).infl.hdist = s.infl.hdist := rfl
@[simp] theorem setInflPhase_infl_hclen (p : InflPhase) (s : State) : (setInflPhase p s).infl.hclen = s.infl.hclen := rfl
@[simp] theorem setInflPhase_infl_cllen (p : InflPhase) (s : State) : (setInflPhase p s).infl.cllen = s.infl.cllen := rfl
@[simp] theorem setInflPhase_infl_lenseq (p : InflPhase) (s : State) : (setInflPhase p s).infl.lenseq = s.infl.lenseq := rfl
@[simp] theorem setInflPhase_infl_adler (p : InflPhase) (s : State) : (setInflPhase p s).infl.adler = s.infl.adler := rfl
@[simp] theorem setInflPhase_infl_trailer (p : InflPhase) (s : State) : (setInflPhase p s).infl.trailer = s.infl.trailer := rfl
@[simp] theorem setInflPhase_infl_consumed (p : InflPhase) (s : State) : (setInflPhase p s).infl.consumed = s.infl.consumed := rfl
@[simp] theorem setInflPhase_infl_src (p : InflPhase) (s : State) : (setInflPhase p s).infl.src = s.infl.src := rfl
@[simp] theorem setInflPhase_infl_cont (p : InflPhase) (s : State) : (setInflPhase p s).infl.cont = .none := rfl
@[simp] theorem setInflPhase_zip (p : InflPhase) (s : State) : (setInflPhase p s).zip = s.zip := rfl
@[simp] theorem setInflPhase_tasks (p : InflPhase) (s : State) : (setInflPhase p s).tasks = s.tasks := rfl
@[simp] theorem setInflPhase_params (p : InflPhase) (s : State) : (setInflPhase p s).params = s.params := rfl
@[simp] theorem setInflPhase_host (p : InflPhase) (s : State) : (setInflPhase p s).host = s.host := rfl
@[simp] theorem setInflPhase_rdata (p : InflPhase) (s : State) : (setInflPhase p s).rdata = s.rdata := rfl
@[simp] theorem setInflPhase_freeCtr (p : InflPhase) (s : State) : (setInflPhase p s).freeCtr = s.freeCtr := rfl

/-! ### setZipCont -/

@[simp] theorem setZipCont_ctrl (c : ZipCont) (s : State) : (setZipCont c s).ctrl = s.ctrl := rfl
@[simp] theorem setZipCont_busy (c : ZipCont) (s : State) : (setZipCont c s).busy = s.busy := rfl
@[simp] theorem setZipCont_err (c : ZipCont) (s : State) : (setZipCont c s).err = s.err := rfl
@[simp] theorem setZipCont_uerr (c : ZipCont) (s : State) : (setZipCont c s).uerr = s.uerr := rfl
@[simp] theorem setZipCont_drop (c : ZipCont) (s : State) : (setZipCont c s).drop = s.drop := rfl
@[simp] theorem setZipCont_wait (c : ZipCont) (s : State) : (setZipCont c s).wait = s.wait := rfl
@[simp] theorem setZipCont_errCode (c : ZipCont) (s : State) : (setZipCont c s).errCode = s.errCode := rfl
@[simp] theorem setZipCont_errInfo (c : ZipCont) (s : State) : (setZipCont c s).errInfo = s.errInfo := rfl
@[simp] theorem setZipCont_inq (c : ZipCont) (s : State) : (setZipCont c s).inq = s.inq := rfl
@[simp] theorem setZipCont_inEnd (c : ZipCont) (s : State) : (setZipCont c s).inEnd = s.inEnd := rfl
@[simp] theorem setZipCont_outq (c : ZipCont) (s : State) : (setZipCont c s).outq = s.outq := rfl
@[simp] theorem setZipCont_adler (c : ZipCont) (s : State) : (setZipCont c s).adler = s.adler := rfl
@[simp] theorem setZipCont_crc (c : ZipCont) (s : State) : (setZipCont c s).crc = s.crc := rfl
@[simp] theorem setZipCont_arg (c : ZipCont) (s : State) : (setZipCont c s).arg = s.arg := rfl
@[simp] theorem setZipCont_res (c : ZipCont) (s : State) : (setZipCont c s).res = s.res := rfl
@[simp] theorem setZipCont_lat (c : ZipCont) (s : State) : (setZipCont c s).lat = s.lat := rfl
@[simp] theorem setZipCont_latCmd (c : ZipCont) (s : State) : (setZipCont c s).latCmd = s.latCmd := rfl
@[simp] theorem setZipCont_lz (c : ZipCont) (s : State) : (setZipCont c s).lz = s.lz := rfl
@[simp] theorem setZipCont_defl (c : ZipCont) (s : State) : (setZipCont c s).defl = s.defl := rfl
@[simp] theorem setZipCont_t0 (c : ZipCont) (s : State) : (setZipCont c s).t0 = s.t0 := rfl
@[simp] theorem setZipCont_t1 (c : ZipCont) (s : State) : (setZipCont c s).t1 = s.t1 := rfl
@[simp] theorem setZipCont_t2 (c : ZipCont) (s : State) : (setZipCont c s).t2 = s.t2 := rfl
@[simp] theorem setZipCont_d0 (c : ZipCont) (s : State) : (setZipCont c s).d0 = s.d0 := rfl
@[simp] theorem setZipCont_d1 (c : ZipCont) (s : State) : (setZipCont c s).d1 = s.d1 := rfl
@[simp] theorem setZipCont_d2 (c : ZipCont) (s : State) : (setZipCont c s).d2 = s.d2 := rfl
@[simp] theorem setZipCont_bw (c : ZipCont) (s : State) : (setZipCont c s).bw = s.bw := rfl
@[simp] theorem setZipCont_br (c : ZipCont) (s : State) : (setZipCont c s).br = s.br := rfl
@[simp] theorem setZipCont_infl (c : ZipCont) (s : State) : (setZipCont c s).infl = s.infl := rfl
@[simp] theorem setZipCont_zip_isOpen (c : ZipCont) (s : State) : (setZipCont c s).zip.isOpen = s.zip.isOpen := rfl
@[simp] theorem setZipCont_zip_defLevel (c : ZipCont) (s : State) : (setZipCont c s).zip.defLevel = s.zip.defLevel := rfl
@[simp] theorem setZipCont_zip_entries (c : ZipCont) (s : State) : (setZipCont c s).zip.entries = s.zip.entries := rfl
@[simp] theorem setZipCont_zip_source (c : ZipCont) (s : State) : (setZipCont c s).zip.source = s.zip.source := rfl
@[simp] theorem setZipCont_zip_sink (c : ZipCont) (s : State) : (setZipCont c s).zip.sink = s.zip.sink := rfl
@[simp] theorem setZipCont_zip_dbuf (c : ZipCont) (s : State) : (setZipCont c s).zip.dbuf = s.zip.dbuf := rfl
@[simp] theorem setZipCont_zip_cont (c : ZipCont) (s : State) : (setZipCont c s).zip.cont = c := rfl
@[simp] theorem setZipCont_zip_list (c : ZipCont) (s : State) : (setZipCont c s).zip.list = s.zip.list := rfl
@[simp] theorem setZipCont_zip_saving (c : ZipCont) (s : State) : (setZipCont c s).zip.saving = s.zip.saving := rfl
@[simp] theorem setZipCont_zip_work (c : ZipCont) (s : State) : (setZipCont c s).zip.work = s.zip.work := rfl
@[simp] theorem setZipCont_zip_recs (c : ZipCont) (s : State) : (setZipCont c s).zip.recs = s.zip.recs := rfl
@[simp] theorem setZipCont_zip_packed (c : ZipCont) (s : State) : (setZipCont c s).zip.packed = s.zip.packed := rfl
@[simp] theorem setZipCont_tasks (c : ZipCont) (s : State) : (setZipCont c s).tasks = s.tasks := rfl
@[simp] theorem setZipCont_params (c : ZipCont) (s : State) : (setZipCont c s).params = s.params := rfl
@[simp] theorem setZipCont_host (c : ZipCont) (s : State) : (setZipCont c s).host = s.host := rfl
@[simp] theorem setZipCont_rdata (c : ZipCont) (s : State) : (setZipCont c s).rdata = s.rdata := rfl
@[simp] theorem setZipCont_freeCtr (c : ZipCont) (s : State) : (setZipCont c s).freeCtr = s.freeCtr := rfl

/-! ### setFin -/

@[simp] theorem setFin_ctrl (s : State) : (setFin s).ctrl = s.ctrl := rfl
@[simp] theorem setFin_busy (s : State) : (setFin s).busy = s.busy := rfl
@[simp] theorem setFin_err (s : State) : (setFin s).err = s.err := rfl
@[simp] theorem setFin_uerr (s : State) : (setFin s).uerr = s.uerr := rfl
@[simp] theorem setFin_drop (s : State) : (setFin s).drop = s.drop := rfl
@[simp] theorem setFin_wait (s : State) : (setFin s).wait = s.wait := rfl
@[simp] theorem setFin_errCode (s : State) : (setFin s).errCode = s.errCode := rfl
@[simp] theorem setFin_errInfo (s : State) : (setFin s).errInfo = s.errInfo := rfl
@[simp] theorem setFin_inq (s : State) : (setFin s).inq = s.inq := rfl
@[simp] theorem setFin_inEnd (s : State) : (setFin s).inEnd = s.inEnd := rfl
@[simp] theorem setFin_outq (s : State) : (setFin s).outq = s.outq := rfl
@[simp] theorem setFin_adler (s : State) : (setFin s).adler = s.adler := rfl
@[simp] theorem setFin_crc (s : State) : (setFin s).crc = s.crc := rfl
@[simp] theorem setFin_arg (s : State) : (setFin s).arg = s.arg := rfl
@[simp] theorem setFin_res (s : State) : (setFin s).res = s.res := rfl
@[simp] theorem setFin_lat (s : State) : (setFin s).lat = s.lat := rfl
@[simp] theorem setFin_latCmd (s : State) : (setFin s).latCmd = s.latCmd := rfl
@[simp] theorem setFin_lz (s : State) : (setFin s).lz = s.lz := rfl
@[simp] theorem setFin_defl_phase (s : State) : (setFin s).defl.phase = s.defl.phase := rfl
@[simp] theorem setFin_defl_blockStart (s : State) : (setFin s).defl.blockStart = s.defl.blockStart := rfl
@[simp] theorem setFin_defl_blockEnd (s : State) : (setFin s).defl.blockEnd = s.defl.blockEnd := rfl
@[simp] theorem setFin_defl_pairs (s : State) : (setFin s).defl.pairs = s.defl.pairs := rfl
@[simp] theorem setFin_defl_stage (s : State) : (setFin s).defl.stage = s.defl.stage := rfl
@[simp] theorem setFin_defl_adler (s : State) : (setFin s).defl.adler = s.defl.adler := rfl
@[simp] theorem setFin_defl_outCount (s : State) : (setFin s).defl.outCount = s.defl.outCount := rfl
@[simp] theorem setFin_defl_fin (s : State) : (setFin s).defl.fin = true := rfl
@[simp] theorem setFin_defl_params (s : State) : (setFin s).defl.params = s.defl.params := rfl
@[simp] theorem setFin_t0 (s : State) : (setFin s).t0 = s.t0 := rfl
@[simp] theorem setFin_t1 (s : State) : (setFin s).t1 = s.t1 := rfl
@[simp] theorem setFin_t2 (s : State) : (setFin s).t2 = s.t2 := rfl
@[simp] theorem setFin_d0 (s : State) : (setFin s).d0 = s.d0 := rfl
@[simp] theorem setFin_d1 (s : State) : (setFin s).d1 = s.d1 := rfl
@[simp] theorem setFin_d2 (s : State) : (setFin s).d2 = s.d2 := rfl
@[simp] theorem setFin_bw (s : State) : (setFin s).bw = s.bw := rfl
@[simp] theorem setFin_br (s : State) : (setFin s).br = s.br := rfl
@[simp] theorem setFin_infl (s : State) : (setFin s).infl = s.infl := rfl
@[simp] theorem setFin_zip (s : State) : (setFin s).zip = s.zip := rfl
@[simp] theorem setFin_tasks (s : State) : (setFin s).tasks = s.tasks := rfl
@[simp] theorem setFin_params (s : State) : (setFin s).params = s.params := rfl
@[simp] theorem setFin_host (s : State) : (setFin s).host = s.host := rfl
@[simp] theorem setFin_rdata (s : State) : (setFin s).rdata = s.rdata := rfl
@[simp] theorem setFin_freeCtr (s : State) : (setFin s).freeCtr = s.freeCtr := rfl

/-! ### brPut -/

@[simp] theorem brPut_ctrl (b : BitSrc) (s : State) : (brPut s b).ctrl = s.ctrl := rfl
@[simp] theorem brPut_busy (b : BitSrc) (s : State) : (brPut s b).busy = s.busy := rfl
@[simp] theorem brPut_err (b : BitSrc) (s : State) : (brPut s b).err = s.err := rfl
@[simp] theorem brPut_uerr (b : BitSrc) (s : State) : (brPut s b).uerr = s.uerr := rfl
@[simp] theorem brPut_drop (b : BitSrc) (s : State) : (brPut s b).drop = s.drop := rfl
@[simp] theorem brPut_wait (b : BitSrc) (s : State) : (brPut s b).wait = s.wait := rfl
@[simp] theorem brPut_errCode (b : BitSrc) (s : State) : (brPut s b).errCode = s.errCode := rfl
@[simp] theorem brPut_errInfo (b : BitSrc) (s : State) : (brPut s b).errInfo = s.errInfo := rfl
@[simp] theorem brPut_inq (b : BitSrc) (s : State) : (brPut s b).inq = b.bytes := rfl
@[simp] theorem brPut_inEnd (b : BitSrc) (s : State) : (brPut s b).inEnd = s.inEnd := rfl
@[simp] theorem brPut_outq (b : BitSrc) (s : State) : (brPut s b).outq = s.outq := rfl
@[simp] theorem brPut_adler (b : BitSrc) (s : State) : (brPut s b).adler = s.adler := rfl
@[simp] theorem brPut_crc (b : BitSrc) (s : State) : (brPut s b).crc = s.crc := rfl
@[simp] theorem brPut_arg (b : BitSrc) (s : State) : (brPut s b).arg = s.arg := rfl
@[simp] theorem brPut_res (b : BitSrc) (s : State) : (brPut s b).res = s.res := rfl
@[simp] theorem brPut_lat (b : BitSrc) (s : State) : (brPut s b).lat = s.lat := rfl
@[simp] theorem brPut_latCmd (b : BitSrc) (s : State) : (brPut s b).latCmd = s.latCmd := rfl
@[simp] theorem brPut_lz (b : BitSrc) (s : State) : (brPut s b).lz = s.lz := rfl
@[simp] theorem brPut_defl (b : BitSrc) (s : State) : (brPut s b).defl = s.defl := rfl
@[simp] theorem brPut_t0 (b : BitSrc) (s : State) : (brPut s b).t0 = s.t0 := rfl
@[simp] theorem brPut_t1 (b : BitSrc) (s : State) : (brPut s b).t1 = s.t1 := rfl
@[simp] theorem brPut_t2 (b : BitSrc) (s : State) : (brPut s b).t2 = s.t2 := rfl
@[simp] theorem brPut_d0 (b : BitSrc) (s : State) : (brPut s b).d0 = s.d0 := rfl
@[simp] theorem brPut_d1 (b : BitSrc) (s : State) : (brPut s b).d1 = s.d1 := rfl
@[simp] theorem brPut_d2 (b : BitSrc) (s : State) : (brPut s b).d2 = s.d2 := rfl
@[simp] theorem brPut_bw (b : BitSrc) (s : State) : (brPut s b).bw = s.bw := rfl
@[simp] theorem brPut_br (b : BitSrc) (s : State) : (brPut s b).br = ⟨b.acc, b.n⟩ := rfl
@[simp] theorem brPut_infl (b : BitSrc) (s : State) : (brPut s b).infl = s.infl := rfl
@[simp] theorem brPut_zip (b : BitSrc) (s : State) : (brPut s b).zip = s.zip := rfl
@[simp] theorem brPut_tasks (b : BitSrc) (s : State) : (brPut s b).tasks = s.tasks := rfl
@[simp] theorem brPut_params (b : BitSrc) (s : State) : (brPut s b).params = s.params := rfl
@[simp] theorem brPut_host (b : BitSrc) (s : State) : (brPut s b).host = s.host := rfl
@[simp] theorem brPut_rdata (b : BitSrc) (s : State) : (brPut s b).rdata = s.rdata := rfl
@[simp] theorem brPut_freeCtr (b : BitSrc) (s : State) : (brPut s b).freeCtr = s.freeCtr := rfl

/-! ### putEntry -/

@[simp] theorem putEntry_ctrl (i : Nat) (e : Entry) (s : State) : (putEntry i e s).ctrl = s.ctrl := rfl
@[simp] theorem putEntry_busy (i : Nat) (e : Entry) (s : State) : (putEntry i e s).busy = s.busy := rfl
@[simp] theorem putEntry_err (i : Nat) (e : Entry) (s : State) : (putEntry i e s).err = s.err := rfl
@[simp] theorem putEntry_uerr (i : Nat) (e : Entry) (s : State) : (putEntry i e s).uerr = s.uerr := rfl
@[simp] theorem putEntry_drop (i : Nat) (e : Entry) (s : State) : (putEntry i e s).drop = s.drop := rfl
@[simp] theorem putEntry_wait (i : Nat) (e : Entry) (s : State) : (putEntry i e s).wait = s.wait := rfl
@[simp] theorem putEntry_errCode (i : Nat) (e : Entry) (s : State) : (putEntry i e s).errCode = s.errCode := rfl
@[simp] theorem putEntry_errInfo (i : Nat) (e : Entry) (s : State) : (putEntry i e s).errInfo = s.errInfo := rfl
@[simp] theorem putEntry_inq (i : Nat) (e : Entry) (s : State) : (putEntry i e s).inq = s.inq := rfl
@[simp] theorem putEntry_inEnd (i : Nat) (e : Entry) (s : State) : (putEntry i e s).inEnd = s.inEnd := rfl
@[simp] theorem putEntry_outq (i : Nat) (e : Entry) (s : State) : (putEntry i e s).outq = s.outq := rfl
@[simp] theorem putEntry_adler (i : Nat) (e : Entry) (s : State) : (putEntry i e s).adler = s.adler := rfl
@[simp] theorem putEntry_crc (i : Nat) (e : Entry) (s : State) : (putEntry i e s).crc = s.crc := rfl
@[simp] theorem putEntry_arg (i : Nat) (e : Entry) (s : State) : (putEntry i e s).arg = s.arg := rfl
@[simp] theorem putEntry_res (i : Nat) (e : Entry) (s : State) : (putEntry i e s).res = s.res := rfl
@[simp] theorem putEntry_lat (i : Nat) (e : Entry) (s : State) : (putEntry i e s).lat = s.lat := rfl
@[simp] theorem putEntry_latCmd (i : Nat) (e : Entry) (s : State) : (putEntry i e s).latCmd = s.latCmd := rfl
@[simp] theorem putEntry_lz (i : Nat) (e : Entry) (s : State) : (putEntry i e s).lz = s.lz := rfl
@[simp] theorem putEntry_defl (i : Nat) (e : Entry) (s : State) : (putEntry i e s).defl = s.defl := rfl
@[simp] theorem putEntry_t0 (i : Nat) (e : Entry) (s : State) : (putEntry i e s).t0 = s.t0 := rfl
@[simp] theorem putEntry_t1 (i : Nat) (e : Entry) (s : State) : (putEntry i e s).t1 = s.t1 := rfl
@[simp] theorem putEntry_t2 (i : Nat) (e : Entry) (s : State) : (putEntry i e s).t2 = s.t2 := rfl
@[simp] theorem putEntry_d0 (i : Nat) (e : Entry) (s : State) : (putEntry i e s).d0 = s.d0 := rfl
@[simp] theorem putEntry_d1 (i : Nat) (e : Entry) (s : State) : (putEntry i e s).d1 = s.d1 := rfl
@[simp] theorem putEntry_d2 (i : Nat) (e : Entry) (s : State) : (putEntry i e s).d2 = s.d2 := rfl
@[simp] theorem putEntry_bw (i : Nat) (e : Entry) (s : State) : (putEntry i e s).bw = s.bw := rfl
@[simp] theorem putEntry_br (i : Nat) (e : Entry) (s : State) : (putEntry i e s).br = s.br := rfl
@[simp] theorem putEntry_infl (i : Nat) (e : Entry) (s : State) : (putEntry i e s).infl = s.infl := rfl
@[simp] theorem putEntry_zip_isOpen (i : Nat) (e : Entry) (s : State) : (putEntry i e s).zip.isOpen = s.zip.isOpen := rfl
@[simp] theorem putEntry_zip_defLevel (i : Nat) (e : Entry) (s : State) : (putEntry i e s).zip.defLevel = s.zip.defLevel := rfl
@[simp] theorem putEntry_zip_entries (i : Nat) (e : Entry) (s : State) : (putEntry i e s).zip.entries = setAt s.zip.entries i e := rfl
@[simp] theorem putEntry_zip_source (i : Nat) (e : Entry) (s : State) : (putEntry i e s).zip.source = s.zip.source := rfl
@[simp] theorem putEntry_zip_sink (i : Nat) (e : Entry) (s : State) : (putEntry i e s).zip.sink = s.zip.sink := rfl
@[simp] theorem putEntry_zip_dbuf (i : Nat) (e : Entry) (s : State) : (putEntry i e s).zip.dbuf = s.zip.dbuf := rfl
@[simp] theorem putEntry_zip_cont (i : Nat) (e : Entry) (s : State) : (putEntry i e s).zip.cont = s.zip.cont := rfl
@[simp] theorem putEntry_zip_list (i : Nat) (e : Entry) (s : State) : (putEntry i e s).zip.list = s.zip.list := rfl
@[simp] theorem putEntry_zip_saving (i : Nat) (e : Entry) (s : State) : (putEntry i e s).zip.saving = s.zip.saving := rfl
@[simp] theorem putEntry_zip_work (i : Nat) (e : Entry) (s : State) : (putEntry i e s).zip.work = s.zip.work := rfl
@[simp] theorem putEntry_zip_recs (i : Nat) (e : Entry) (s : State) : (putEntry i e s).zip.recs = s.zip.recs := rfl
@[simp] theorem putEntry_zip_packed (i : Nat) (e : Entry) (s : State) : (putEntry i e s).zip.packed = s.zip.packed := rfl
@[simp] theorem putEntry_tasks (i : Nat) (e : Entry) (s : State) : (putEntry i e s).tasks = s.tasks := rfl
@[simp] theorem putEntry_params (i : Nat) (e : Entry) (s : State) : (putEntry i e s).params = s.params := rfl
@[simp] theorem putEntry_host (i : Nat) (e : Entry) (s : State) : (putEntry i e s).host = s.host := rfl
@[simp] theorem putEntry_rdata (i : Nat) (e : Entry) (s : State) : (putEntry i e s).rdata = s.rdata := rfl
@[simp] theorem putEntry_freeCtr (i : Nat) (e : Entry) (s : State) : (putEntry i e s).freeCtr = s.freeCtr := rfl

end Sys2Proof.Machine
end

