-- ==== Sys2Proof/Laws/Ops.lean ====
section
/-! SUPPORT. What each shared operation can do, said once: FIFOs, guards, the two forms of a command, and the drive of a command's
tasks. -/

namespace Sys2Proof.Machine

/-! ## Properties of outcomes -/

/-- A property of the state in every ending of an operation. -/
def Res.All (P : State → Prop) : Res → Prop
  | .ok s => P s
  | .hold _ s => P s
  | .raise _ _ s => P s

@[simp] theorem all_ok (P : State → Prop) (s : State) : Res.All P (.ok s) ↔ P s := Iff.rfl
@[simp] theorem all_hold (P : State → Prop) (w : Wait) (s : State) : Res.All P (.hold w s) ↔ P s := Iff.rfl
@[simp] theorem all_raise (P : State → Prop) (e : Err) (i : Word) (s : State) :
    Res.All P (.raise e i s) ↔ P s := Iff.rfl
@[simp] theorem all_refuse (P : State → Prop) (e : Err) (o : Nat) (s : State) : Res.All P (refuse e o s) ↔ P s := Iff.rfl

theorem all_mono {P Q : State → Prop} (h : ∀ s, P s → Q s) {r : Res} (hr : r.All P) : r.All Q := by
  cases r <;> exact h _ hr

theorem all_andThen {P Q : State → Prop} {r : Res} {f : State → Res} (hPQ : ∀ s, P s → Q s) (hr : r.All P)
    (hf : ∀ s, P s → (f s).All Q) : (r.andThen f).All Q := by
  cases r
  · exact hf _ hr
  · exact hPQ _ hr
  · exact hPQ _ hr

/-- A property every next state has. -/
def NextAll (P : State → Prop) (o : Host.Outcome State Fault Refusal) : Prop := ∀ t, o = .next t → P t

@[simp] theorem nextAll_next (P : State → Prop) (s : State) : NextAll P (.next s) ↔ P s := by
  simp [NextAll]

/-- What a property must survive for the ends of a command to keep it: every change of the report and of the frame. -/
structure FrameStable (P : State → Prop) : Prop where
  complete : ∀ s, P s → P (complete s)
  begun : ∀ s, P s → P (begun s)
  hold : ∀ s w, P s → P { s with wait := w }
  raise : ∀ s e i, P s → P (raiseErr e i s)

@[simp] theorem settle_ok (s : State) : settle (.ok s) = complete s := rfl
@[simp] theorem settle_hold (w : Wait) (s : State) : settle (.hold w s) = { s with wait := w } := rfl
@[simp] theorem settle_raise (e : Err) (i : Word) (s : State) : settle (.raise e i s) = raiseErr e i s := rfl

theorem finish_keeps {P : State → Prop} (fs : FrameStable P) {f : State → Res} {s : State} (h : P s)
    (hf : ∀ s, P s → (f s).All P) : NextAll P (finish f s) := by
  have hr := hf _ (fs.begun s h)
  simp only [finish, nextAll_next]
  cases hq : f (begun s) <;> rw [hq] at hr
  · exact fs.complete _ hr
  · exact fs.hold _ _ hr
  · exact fs.raise _ _ _ hr

/-- The one induction over a command's tasks. -/
theorem drive_keeps {P : State → Prop} (fs : FrameStable P) (ht : ∀ t s, P s → (runTask t s).All P) (k : Nat)
    {s : State} (h : P s) : P (drive k s) := by
  induction k generalizing s with
  | zero =>
    simp only [drive]
    split
    · exact fs.complete _ h
    · exact h
  | succ k ih =>
    simp only [drive]
    split
    · exact fs.complete _ h
    · rename_i t _ _
      have hr := ht t s h
      cases hq : runTask t s <;> rw [hq] at hr
      · exact ih hr
      · exact fs.hold _ _ hr
      · exact fs.raise _ _ _ hr

theorem run_keeps {P : State → Prop} (fs : FrameStable P) (ht : ∀ t s, P s → (runTask t s).All P) {s : State} (h : P s) :
    P (run s) := drive_keeps fs ht _ h

theorem launch_keeps {P : State → Prop} (fs : FrameStable P) (ht : ∀ t s, P s → (runTask t s).All P) {f : State → Res}
    {s : State} (h : P s) (hf : ∀ s, P s → (f s).All P) : NextAll P (launch f s) := by
  have hr := hf _ (fs.begun s h)
  unfold launch
  cases hq : f (begun s) <;> rw [hq] at hr <;> simp only [nextAll_next]
  · exact run_keeps fs ht hr
  · exact fs.hold _ _ hr
  · exact fs.raise _ _ _ hr

theorem finishWire_keeps {P : State → Prop} (fs : FrameStable P) {r : Res} (hr : r.All P) : NextAll P (finishWire r) := by
  cases r <;> simp only [finishWire, nextAll_next]
  · exact hr
  · exact fs.hold _ _ hr
  · exact fs.raise _ _ _ hr

theorem runOn_keeps {P : State → Prop} (fs : FrameStable P) (ht : ∀ t s, P s → (runTask t s).All P)
    {o : Host.Outcome State Fault Refusal} (h : NextAll P o) : NextAll P (runOn o) := by
  cases o with
  | next s =>
    have hs : P s := h s rfl
    simp only [runOn]
    split <;> simp only [nextAll_next]
    · exact run_keeps fs ht hs
    · exact hs
  | fault f => cases f
  | refused r => intro t ht; cases ht

/-! ## The drive, one task at a time -/

/-- The budget leaves room for any run written out in a proof. -/
theorem run_eq (s : State) : run s = drive (budget s - 100 + 100) s := by
  have h : budget s - 100 + 100 = budget s := by simp only [budget]; omega
  rw [h, run]

/-- With no task left the command is complete, whatever is left of the budget. -/
theorem drive_nil {k : Nat} {s : State} (h : s.tasks = []) : drive k s = complete s := by
  cases k <;> simp only [drive, h]

theorem drive_ok {k : Nat} {s s' : State} {t : Task} {ts : List Task} (h : s.tasks = t :: ts)
    (hr : runTask t s = .ok s') : drive (k + 1) s = drive k s' := by
  simp only [drive, h, hr]

theorem drive_hold {k : Nat} {s s' : State} {t : Task} {ts : List Task} {w : Wait} (h : s.tasks = t :: ts)
    (hr : runTask t s = .hold w s') : drive (k + 1) s = { s' with wait := w } := by
  simp only [drive, h, hr]

theorem drive_raise {k : Nat} {s s' : State} {t : Task} {ts : List Task} {e : Err} {i : Word} (h : s.tasks = t :: ts)
    (hr : runTask t s = .raise e i s') : drive (k + 1) s = raiseErr e i s' := by
  simp only [drive, h, hr]

/-! ## Guards and counted input -/

@[simp] theorem guardErr_false (e : Err) (o : Nat) (s : State) (r : Res) : guardErr false e o s r = r := rfl
@[simp] theorem guardErr_true (e : Err) (o : Nat) (s : State) (r : Res) : guardErr true e o s r = refuse e o s := rfl

theorem guardErr_all {P : State → Prop} {b : Bool} {e : Err} {o : Nat} {s : State} {r : Res} (h : P s) (hr : r.All P) :
    (guardErr b e o s r).All P := by
  cases b
  · exact hr
  · exact h

theorem takeCounted_enough {o k : Nat} {s : State} {f : Bytes → State → Res} (h : k ≤ s.inq.length) :
    takeCounted o k s f = f (s.inq.take k) { s with inq := s.inq.drop k } := by
  simp [takeCounted, h]

theorem takeCounted_short {o k : Nat} {s : State} {f : Bytes → State → Res} (h : s.inq.length < k)
    (he : s.inEnd = true) : takeCounted o k s f = refuse .shortInput o s := by
  simp [takeCounted, Nat.not_le.2 h, he]

theorem takeCounted_hold {o k : Nat} {s : State} {f : Bytes → State → Res} (h : s.inq.length < k)
    (he : s.inEnd = false) : takeCounted o k s f = .hold (.inBytes k) s := by
  simp [takeCounted, Nat.not_le.2 h, he]

theorem takeCounted_all {P : State → Prop} {o k : Nat} {s : State} {f : Bytes → State → Res} (h : P s)
    (hf : k ≤ s.inq.length → (f (s.inq.take k) { s with inq := s.inq.drop k }).All P) :
    (takeCounted o k s f).All P := by
  unfold takeCounted
  split
  · exact hf ‹_›
  · split <;> exact h

/-! ## OUT -/

theorem outRoom_le (s : State) (n : Nat) : outRoom s n ≤ n := by
  unfold outRoom
  split
  · exact Nat.le_refl _
  · exact Nat.min_le_left _ _

/-- With room for all of them, every byte is pushed. -/
theorem outPush_room {bs : Bytes} {s : State} (h : outRoom s bs.length = bs.length) :
    outPush bs s = .ok { s with outq := s.outq ++ bs } := by
  simp [outPush, h]

/-- On a full OUT the byte waits in the first task. -/
theorem outPush_full {b : Byte} {s : State} (h : outRoom s 1 = 0) :
    outPush [b] s = .hold .outSpace { s with tasks := .push [b] :: s.tasks } := by
  simp [outPush, h]

/-- An unbounded OUT has room. -/
theorem outRoom_unbounded {s : State} (h : s.params.outCap = none) (n : Nat) : outRoom s n = n := by
  simp [outRoom, h]

/-- Room for n bytes is room for fewer. -/
theorem outRoom_mono {s : State} {m n : Nat} (hmn : m ≤ n) (h : outRoom s n = n) : outRoom s m = m := by
  unfold outRoom at h ⊢
  split at h <;> simp_all
  omega

/-- Whatever happens, OUT grows by a prefix of the bytes, and the rest waits in the first task. -/
theorem outPush_spec (bs : Bytes) (s : State) :
    ∃ k, k ≤ bs.length ∧
      ((k = bs.length ∧ outPush bs s = .ok { s with outq := s.outq ++ bs }) ∨
        (k < bs.length ∧ outPush bs s =
          .hold .outSpace { s with outq := s.outq ++ bs.take k, tasks := .push (bs.drop k) :: s.tasks })) := by
  refine ⟨outRoom s bs.length, outRoom_le s _, ?_⟩
  rcases Nat.lt_or_ge (outRoom s bs.length) bs.length with h | h
  · right; exact ⟨h, by simp [outPush, h]⟩
  · left
    have h' : outRoom s bs.length = bs.length := Nat.le_antisymm (outRoom_le s _) h
    exact ⟨h', outPush_room h'⟩

/-! ## The parameters of 00_scope.md R11 with an empty table -/

theorem nameHook_default {p : Params} (h : p.hook = []) (raw : Bytes) : nameHook p raw = raw := by
  simp [nameHook, h]

theorem lengthsFor_default {p : Params} (h : p.lengths = []) (freq : List Nat) (m : Nat) :
    lengthsFor p freq m = huffLengths freq m := by
  simp [lengthsFor, h]

theorem finderChoice_default {s : State} (h : s.params.finder = []) : finderChoice s = none := by
  simp [finderChoice, findRow, h]

theorem deflStep_default {s : State} (h : s.params.finder = []) : deflStep s = referenceStep s := by
  simp [deflStep, finderChoice_default h]

/-! Linking covered positions leaves the window and the cursor. -/

@[simp] theorem linkCovered_win (n : Nat) (link : List Nat) (z : Lz) : (linkCovered n link z).win = z.win := by
  induction link generalizing z with
  | nil => rfl
  | cons o os ih => rw [linkCovered, ih]; split <;> rfl

@[simp] theorem linkCovered_strStart (n : Nat) (link : List Nat) (z : Lz) : (linkCovered n link z).strStart = z.strStart := by
  induction link generalizing z with
  | nil => rfl
  | cons o os ih => rw [linkCovered, ih]; split <;> rfl

@[simp] theorem linkCovered_lookahead (n : Nat) (link : List Nat) (z : Lz) : (linkCovered n link z).lookahead = z.lookahead := by
  induction link generalizing z with
  | nil => rfl
  | cons o os ih => rw [linkCovered, ih]; split <;> rfl

@[simp] theorem linkCovered_matchLen (n : Nat) (link : List Nat) (z : Lz) : (linkCovered n link z).matchLen = z.matchLen := by
  induction link generalizing z with
  | nil => rfl
  | cons o os ih => rw [linkCovered, ih]; split <;> rfl

@[simp] theorem linkCovered_matchStart (n : Nat) (link : List Nat) (z : Lz) : (linkCovered n link z).matchStart = z.matchStart := by
  induction link generalizing z with
  | nil => rfl
  | cons o os ih => rw [linkCovered, ih]; split <;> rfl

@[simp] theorem linkCovered_matchAvail (n : Nat) (link : List Nat) (z : Lz) : (linkCovered n link z).matchAvail = z.matchAvail := by
  induction link generalizing z with
  | nil => rfl
  | cons o os ih => rw [linkCovered, ih]; split <;> rfl

/-- The trees a failing block flush writes are all it writes. -/
theorem failedTrees_frame (s : State) : ∃ a b c : HTree, failedTrees s = { s with t0 := a, t1 := b, t2 := c } := by
  simp only [failedTrees]
  split
  · exact ⟨_, _, _, rfl⟩
  · split <;> exact ⟨_, _, _, rfl⟩

/-- With no byte held nothing is emitted. -/
theorem emitHeld_none {s : State} (h : s.lz.matchAvail = false) : emitHeld s = s := by
  simp [emitHeld, h]

/-! ## Trees and tables -/

@[simp] theorem getTree_setTree (s : State) (t : Sel) (h : HTree) : getTree (setTree s t h) t = h := by
  cases t <;> rfl

@[simp] theorem getTable_setTable (s : State) (t : Sel) (d : DTable) : getTable (setTable s t d) t = d := by
  cases t <;> rfl

end Sys2Proof.Machine
end

