-- ==== Sys2Proof/Laws/Stream.lean ====
section
/-! SUPPORT. The bit reader and the bit writer: what a refill, a drop and a packed write do. -/

namespace Sys2Proof.Machine

/-! ## Reader -/

/-- The reader's invariant on a bit source. -/
def BitSrc.Ok (b : BitSrc) : Prop := b.n < 32 ∧ b.acc.toNat < 2 ^ b.n

theorem add_shift_lt {a b n : Nat} (ha : a < 2 ^ n) (hb : b < 256) : a + b * 2 ^ n < 2 ^ (n + 8) := by
  have h : b * 2 ^ n ≤ 255 * 2 ^ n := Nat.mul_le_mul_right _ (by omega)
  rw [Nat.pow_add]
  omega

/-- One popped byte above the bits held: as a number, an addition. -/
theorem pop_value {acc : Word} {n : Nat} (b : Byte) (hn : n ≤ 24) (ha : acc.toNat < 2 ^ n) :
    (acc ||| (b.setWidth 32 <<< n)).toNat = acc.toNat + b.toNat * 2 ^ n := by
  have hb : b.toNat < 256 := b.isLt
  have hlt : b.toNat * 2 ^ n < 2 ^ 32 := by
    have h1 : 2 ^ n ≤ 2 ^ 24 := Nat.pow_le_pow_right (by omega) hn
    have h2 : b.toNat * 2 ^ n ≤ 255 * 2 ^ 24 := Nat.mul_le_mul (by omega) h1
    have h3 : 255 * 2 ^ 24 < 2 ^ 32 := by norm_num
    omega
  have hs : ((b.setWidth 32 <<< n : Word)).toNat = b.toNat * 2 ^ n := by
    rw [BitVec.toNat_shiftLeft, BitVec.toNat_setWidth, Nat.shiftLeft_eq,
      Nat.mod_eq_of_lt (show b.toNat < 2 ^ 32 by omega), Nat.mod_eq_of_lt hlt]
  rw [BitVec.toNat_or, hs, Nat.mul_comm, Nat.or_comm, ← Nat.two_pow_add_eq_or_of_lt ha]
  omega

/-- A refill up to at most 24 bits keeps the invariant. -/
theorem refillLoop_ok {l : Nat} (hl : l ≤ 24) (bs : Bytes) (acc : Word) (n pops : Nat) (hn : n < 32)
    (ha : acc.toNat < 2 ^ n) : (refillLoop l acc n pops bs).Ok := by
  induction bs generalizing acc n pops with
  | nil => exact ⟨hn, ha⟩
  | cons b bs ih =>
    simp only [refillLoop]
    split
    · refine ih _ _ _ (by omega) ?_
      rw [pop_value b (by omega) ha]
      exact add_shift_lt ha b.isLt
    · exact ⟨hn, ha⟩

theorem refill_ok {l : Nat} (hl : l ≤ 24) {b : BitSrc} (h : b.Ok) : (b.refill l).Ok :=
  refillLoop_ok hl b.bytes b.acc b.n b.pops h.1 h.2

/-- Dropping bits keeps the invariant. -/
theorem drop_ok (k : Nat) {b : BitSrc} (h : b.Ok) : (b.drop k).Ok := by
  refine ⟨by have := h.1; simp only [BitSrc.drop]; omega, ?_⟩
  simp only [BitSrc.drop, BitVec.toNat_ushiftRight, Nat.shiftRight_eq_div_pow]
  rw [Nat.div_lt_iff_lt_mul (Nat.two_pow_pos k)]
  refine Nat.lt_of_lt_of_le h.2 ?_
  rw [← Nat.pow_add]
  exact Nat.pow_le_pow_right (by omega) (by omega)

/-- A refill that finds enough bits does nothing. -/
theorem refillLoop_enough {l n : Nat} (h : l ≤ n) (acc : Word) (pops : Nat) (bs : Bytes) :
    refillLoop l acc n pops bs = ⟨acc, n, bs, pops⟩ := by
  cases bs with
  | nil => rfl
  | cons b bs => simp [refillLoop, Nat.not_lt.2 h]

theorem refill_enough {l : Nat} {b : BitSrc} (h : l ≤ b.n) : b.refill l = b := refillLoop_enough h _ _ _

/-- A refill either reaches l bits or empties its source. -/
theorem refillLoop_reach (l : Nat) (acc : Word) (n pops : Nat) (bs : Bytes) :
    l ≤ (refillLoop l acc n pops bs).n ∨ (refillLoop l acc n pops bs).bytes = [] := by
  induction bs generalizing acc n pops with
  | nil => exact Or.inr rfl
  | cons b bs ih =>
    simp only [refillLoop]
    split
    · exact ih _ _ _
    · left; simp only; omega

/-- What is taken from the source goes into the count, eight bits a byte. -/
theorem refillLoop_bits (l : Nat) (acc : Word) (n pops : Nat) (bs : Bytes) :
    (refillLoop l acc n pops bs).n + 8 * (refillLoop l acc n pops bs).bytes.length = n + 8 * bs.length := by
  induction bs generalizing acc n pops with
  | nil => rfl
  | cons b bs ih =>
    simp only [refillLoop]
    split
    · rw [ih]; simp only [List.length_cons]; omega
    · rfl

/-- Every symbol decode keeps the invariant. -/
theorem decodeLoop_ok (len code ls : List Nat) (hls : ∀ l ∈ ls, l ≤ 24) {b : BitSrc} (h : b.Ok) :
    (decodeLoop len code ls b).2.Ok := by
  induction ls generalizing b with
  | nil => exact h
  | cons l ls ih =>
    have hr := refill_ok (hls l (by simp)) h
    simp only [decodeLoop]
    split
    · exact hr
    · split
      · exact drop_ok l hr
      · exact ih (fun x hx => hls x (by simp [hx])) hr

theorem decodeSym_ok (len : List Nat) {b : BitSrc} (h : b.Ok) : (decodeSym len b).2.Ok :=
  decodeLoop_ok len _ _ (by decide) h

/-! ## Writer -/

theorem packBytes_n (k : Nat) (p : Pack) (h : p.n / 8 ≤ k) : (packBytes k p).n = p.n % 8 := by
  induction k generalizing p with
  | zero => simp only [packBytes]; omega
  | succ k ih =>
    simp only [packBytes]
    split
    · rw [ih _ (by simp only; omega)]; simp only; omega
    · omega

/-- After a write at most seven bits stay. -/
theorem packBits_n (v n : Nat) (p : Pack) : (packBits v n p).n = (p.n + n) % 8 := by
  exact packBytes_n _ _ (Nat.le_refl _)

theorem wop_run_n (o : WOp) {p : Pack} (h : p.n ≤ 7) : (o.run p).n ≤ 7 := by
  cases o with
  | bits v n => simp only [WOp.run, packBits_n]; omega
  | align =>
    simp only [WOp.run, packAlign]
    split
    · exact Nat.zero_le 7
    · exact h
  | raw bs => exact h

/-- Any writer operations leave at most seven bits. -/
theorem packOps_n (ops : List WOp) {p : Pack} (h : p.n ≤ 7) : (packOps ops p).n ≤ 7 := by
  induction ops generalizing p with
  | nil => exact h
  | cons o ops ih => exact ih (wop_run_n o h)

end Sys2Proof.Machine
end

