-- ==== Sys2Proof/Laws/Wire.lean ====
section
/-! SUPPORT. The wire symbols: `exec` of one is its effect as the engine applies it, and what a raise from IN leaves. -/

namespace Sys2Proof.Machine

/-- The engine's loop and `exec` give a wire symbol one meaning. -/
theorem exec_wire (i : Instr) (s : State) (h : (encode i).1 ≠ .cmd) : exec i s = finishWire (wire i s) := by
  cases i <;> first | rfl | exact absurd rfl h

/-- A raise from IN of a class other than InternalError (47_deflate_decompressor.md R465). -/
theorem finishWire_failInfl (e : Err) (s : State) (hs : s.infl.src = .input) (he : e.cls ≠ 5) :
    finishWire (failInfl e s) = .next (inflRaised e s) := by
  unfold failInfl
  split
  · show finishWire (.raise e (if e.cls = 5 then _ else s.infl.consumed) _) = _
    rw [if_neg he]
    rfl
  · rename_i h
    rw [hs] at h
    cases h

end Sys2Proof.Machine
end

