-- ==== Sys2Proof/Tests/Slice0.lean ====
section
/-! SUPPORT. Small tests: ill-formed terms the check refuses, one word of every constructor decoded, single steps against the vectors of
spec/95_test_vectors.md and of the rules, and a witness for the hypotheses of every statement, clause by clause. -/

set_option maxRecDepth 100000

namespace Sys2Proof.Tests

open Sys2Proof.Machine

/-! ## Helpers -/

/-- The next state of an outcome; the reset state where there is none. -/
def after (o : Host.Outcome State Fault Refusal) : State :=
  match o with
  | .next s => s
  | .fault _ => State.reset
  | .refused _ => State.reset

/-- An outcome is a next state. -/
def ran (o : Host.Outcome State Fault Refusal) : Bool :=
  match o with
  | .next _ => true
  | .fault _ => false
  | .refused _ => false

/-- A decoder's answer as an option. -/
def got (r : Except DecodeError Instr) : Option Instr :=
  match r with
  | .ok i => some i
  | .error _ => none

/-- Reset state with bytes in IN. -/
def withIn (bs : Bytes) : State := { State.reset with inq := bs }

/-- Reset state with bytes in IN and latched ARG0. -/
def withIn0 (bs : Bytes) (a0 : Word) : State := { State.reset with inq := bs, lat := ⟨a0, 0, 0, 0⟩ }

/-- Reset state with latched arguments. -/
def withArgs (a0 a1 a2 a3 : Word) : State := { State.reset with lat := ⟨a0, a1, a2, a3⟩ }

/-- Reset state whose host acts next. -/
def withHost (a : HostAct) : State := { State.reset with host := [a] }

/-- ASCII "hello". -/
def hello : Bytes := [0x68, 0x65, 0x6C, 0x6C, 0x6F]

/-- An entry "a" with data and CRC 0. -/
def entryA (data : Bytes) : Entry := ⟨[0x61], 0, 0, 6, data, false, 0, 0, 0, 0⟩

/-- An open archive of these entries. -/
def archive (es : List Entry) : State := { State.reset with zip := { Zip.reset with isOpen := true, entries := es } }

/-- The decompressor at the start of an item of a phase, from IN. -/
def inflAt (ph : InflPhase) (c : InflCont) (bs : Bytes) : State :=
  { State.reset with
    inq := bs
    busy := true
    tasks := [.infl, .inflRes]
    d0 := ⟨fixedLL, true⟩
    d1 := ⟨fixedD, true⟩
    infl := { Infl.reset with phase := ph, cont := c } }

/-! ## Well-formedness: the least E that does not fit, for each check (30_encoding.md R161, R162, R163) -/

theorem test_ill_formed_lengths : List.all
    [.len265 2, .len266 2, .len267 2, .len268 2, .len269 4, .len270 4, .len271 4, .len272 4, .len273 8,
     .len274 8, .len275 8, .len276 8, .len277 16, .len278 16, .len279 16, .len280 16, .len281 32, .len282 32,
     .len283 32, .len284 32]
    (fun i : Instr => !i.wellFormed) = true := by decide

theorem test_ill_formed_distances : List.all
    [.dist4 2, .dist5 2, .dist6 4, .dist7 4, .dist8 8, .dist9 8, .dist10 16, .dist11 16, .dist12 32,
     .dist13 32, .dist14 64, .dist15 64, .dist16 128, .dist17 128, .dist18 256, .dist19 256, .dist20 512,
     .dist21 512, .dist22 1024, .dist23 1024, .dist24 2048, .dist25 2048, .dist26 4096, .dist27 4096,
     .dist28 8192, .dist29 8192]
    (fun i : Instr => !i.wellFormed) = true := by decide

theorem test_ill_formed_code_lengths : List.all
    [.clLen 16, .clRepeatPrev 4, .clZeroShort 8, .clZeroLong 128]
    (fun i : Instr => !i.wellFormed) = true := by decide

/-- The greatest E of each width fits. -/
theorem test_well_formed_bounds :
    [Instr.len265 1, .len269 3, .len273 7, .len277 15, .len284 31, .dist4 1, .dist14 63, .dist29 8191, .clLen 15,
      .clRepeatPrev 3, .clZeroShort 7, .clZeroLong 127].all Instr.wellFormed = true := by decide

/-! ## Decoding: words written out from the encodings of 30_encoding.md -/

/-- Words with their instructions, under one format. -/
def reads (f : Fmt) (l : List (Nat × Instr)) : Bool := l.all (fun p => got (decode f p.1) == some p.2)

/-- IMM << 16, N << 8, OPC (R141, R143). -/
theorem test_decode_system : reads .cmd
    [(0x00000000, .nop), (0x00000001, .reset)] = true := by decide

/-- IMM << 16, N << 8, OPC (R141, R143). -/
theorem test_decode_adler : reads .cmd
    [(0x00000010, .adlerInit), (0x00000011, .adlerUpdate)] = true := by decide

/-- IMM << 16, N << 8, OPC (R141, R143). -/
theorem test_decode_crc : reads .cmd
    [(0x00000020, .crcInit), (0x00000021, .crcUpdate)] = true := by decide

/-- IMM << 16, N << 8, OPC (R141, R143). -/
theorem test_decode_huffman_encoder : reads .cmd
    [(0x00000230, .hencReset 2), (0xBEEF0231, .hencRecord 2 0xBEEF), (0x00000232, .hencBuildTree 2),
     (0x00000233, .hencBuildCodes 2), (0xBEEF0234, .hencEncode 2 0xBEEF), (0x00000235, .hencEstimate 2),
     (0xBEEF0236, .hencQuery 2 0xBEEF)] = true := by decide

/-- IMM << 16, N << 8, OPC (R141, R143). -/
theorem test_decode_huffman_decoder : reads .cmd
    [(0x00000240, .hdecBuild 2), (0x00000241, .hdecBuildFixed 2), (0x00000242, .hdecDecode 2)] = true := by decide

/-- IMM << 16, N << 8, OPC (R141, R143). -/
theorem test_decode_bit_writer : reads .cmd
    [(0xBEEF0250, .bwWriteBits 2 0xBEEF), (0x00000051, .bwAlign), (0x00000052, .bwWriteBytes),
     (0xBEEF0053, .bwWriteShortLe 0xBEEF), (0xBEEF0054, .bwWriteShortBe 0xBEEF), (0x00000055, .bwWriteIntLe),
     (0x00000056, .bwWriteIntBe), (0x00000057, .bwFlush), (0x00000058, .bwReset), (0x00000059, .bwStatus)] = true := by decide

/-- IMM << 16, N << 8, OPC (R141, R143). -/
theorem test_decode_bit_reader : reads .cmd
    [(0x00000260, .brPeek 2), (0x00000261, .brSkip 2), (0x00000062, .brRead16Le), (0x00000063, .brRead16Be),
     (0x00000064, .brRead32Le), (0x00000065, .brRead32Be), (0x00000066, .brAlign), (0x00000067, .brReset),
     (0x00000068, .brAvail)] = true := by decide

/-- IMM << 16, N << 8, OPC (R141, R143). -/
theorem test_decode_match_finder : reads .cmd
    [(0x00000070, .lzReset), (0x00000071, .lzLoad), (0x00000072, .lzFind), (0x00000073, .lzAdvance)] = true := by decide

/-- IMM << 16, N << 8, OPC (R141, R143). -/
theorem test_decode_compressor : reads .cmd
    [(0x00000080, .deflReset), (0x00000081, .deflInput), (0x00000082, .deflFinish), (0x00000083, .compress)] = true := by decide

/-- IMM << 16, N << 8, OPC (R141, R143). -/
theorem test_decode_decompressor : reads .cmd
    [(0x00000090, .inflReset), (0x00000091, .inflRun), (0x00000092, .decompress)] = true := by decide

/-- IMM << 16, N << 8, OPC (R141, R143). -/
theorem test_decode_zip : reads .cmd
    [(0x000000A0, .zipNew), (0x000000A1, .zipOpen), (0x000000A2, .zipAddItem), (0x000000A3, .zipAddFile),
     (0x000000A4, .zipAddDir), (0x000000A5, .zipUpdate), (0x000000A6, .zipRemove), (0x000000A7, .zipFind),
     (0x000000A8, .zipItemData), (0x000000A9, .zipItemInfo), (0x000000AA, .zipItemName),
     (0x000000AB, .zipSetItemLevel), (0x000000AC, .zipSave), (0x000000AD, .zipClose), (0x000000AE, .zipInfo)] = true := by decide

/-- Unused fields are ignored (R142); an unassigned OPC is no instruction (R144). -/
theorem test_decode_ignored_and_unassigned :
    got (decode .cmd 0xFFFFFF00) = some .nop ∧ got (decode .cmd 0x02) = none ∧ got (decode .cmd 0xFF) = none := by decide

/-- BFINAL in bit 0, BTYPE in bits 2:1 (R155). -/
theorem test_decode_block_headers : reads .bhdr
    [(0b000, .blockStored false), (0b001, .blockStored true), (0b010, .blockFixed false), (0b011, .blockFixed true),
     (0b100, .blockDynamic false), (0b101, .blockDynamic true), (0b110, .blockReserved false),
     (0b111, .blockReserved true)] = true := by decide

/-- The symbol, with all-ones extra bits above it (R160, R161, R164). -/
theorem test_decode_literals_and_lengths : reads .litlen
    [(0x00, .lit 0), (0xFF, .lit 0xFF), (256, .eob), (257, .len257), (258, .len258), (259, .len259),
     (260, .len260), (261, .len261), (262, .len262), (263, .len263), (264, .len264),
     (265 + 1 * 512, .len265 1), (266 + 1 * 512, .len266 1), (267 + 1 * 512, .len267 1),
     (268 + 1 * 512, .len268 1), (269 + 3 * 512, .len269 3), (270 + 3 * 512, .len270 3),
     (271 + 3 * 512, .len271 3), (272 + 3 * 512, .len272 3), (273 + 7 * 512, .len273 7),
     (274 + 7 * 512, .len274 7), (275 + 7 * 512, .len275 7), (276 + 7 * 512, .len276 7),
     (277 + 15 * 512, .len277 15), (278 + 15 * 512, .len278 15), (279 + 15 * 512, .len279 15),
     (280 + 15 * 512, .len280 15), (281 + 31 * 512, .len281 31), (282 + 31 * 512, .len282 31),
     (283 + 31 * 512, .len283 31), (284 + 31 * 512, .len284 31), (285, .len285), (286, .litlenReserved false),
     (287, .litlenReserved true)] = true := by decide

/-- The symbol, with all-ones extra bits above it (R162, R164). -/
theorem test_decode_distances : reads .dist
    [(0, .dist0), (1, .dist1), (2, .dist2), (3, .dist3), (4 + 1 * 32, .dist4 1), (5 + 1 * 32, .dist5 1),
     (6 + 3 * 32, .dist6 3), (7 + 3 * 32, .dist7 3), (8 + 7 * 32, .dist8 7), (9 + 7 * 32, .dist9 7),
     (10 + 15 * 32, .dist10 15), (11 + 15 * 32, .dist11 15), (12 + 31 * 32, .dist12 31),
     (13 + 31 * 32, .dist13 31), (14 + 63 * 32, .dist14 63), (15 + 63 * 32, .dist15 63),
     (16 + 127 * 32, .dist16 127), (17 + 127 * 32, .dist17 127), (18 + 255 * 32, .dist18 255),
     (19 + 255 * 32, .dist19 255), (20 + 511 * 32, .dist20 511), (21 + 511 * 32, .dist21 511),
     (22 + 1023 * 32, .dist22 1023), (23 + 1023 * 32, .dist23 1023), (24 + 2047 * 32, .dist24 2047),
     (25 + 2047 * 32, .dist25 2047), (26 + 4095 * 32, .dist26 4095), (27 + 4095 * 32, .dist27 4095),
     (28 + 8191 * 32, .dist28 8191), (29 + 8191 * 32, .dist29 8191), (30, .distReserved false),
     (31, .distReserved true)] = true := by decide

/-- The symbol, with its extra bits above it (R163). -/
theorem test_decode_code_lengths : reads .clen
    [(0, .clLen 0), (15, .clLen 15), (16 + 3 * 32, .clRepeatPrev 3), (17 + 7 * 32, .clZeroShort 7),
     (18 + 127 * 32, .clZeroLong 127)] = true := by decide

/-- CMF then FLG (R150); the trailer's first byte is the most significant (R152); signatures (R175-R177). -/
theorem test_decode_wrappers_and_records :
    reads .zhdr [(0x9C78, .zlibHeader 7 0x9C), (0x0178, .zlibHeader 7 0x01)] = true ∧
    reads .ztrl [(0x15022C06, .zlibTrailer 0x062C0215)] = true ∧
    reads .lfh [(0x04034B50, .zipLocalHeader)] = true ∧ reads .cdh [(0x02014B50, .zipCentralRecord)] = true ∧
    reads .eocd [(0x06054B50, .zipEndRecord)] = true := by decide

/-- Words that are no instruction of their format: E too wide, no such symbol, another method, another signature. -/
theorem test_decode_rejects :
    got (decode .litlen (265 + 2 * 512)) = none ∧ got (decode .litlen (256 + 512)) = none ∧
    got (decode .litlen 288) = none ∧ got (decode .dist (4 + 2 * 32)) = none ∧ got (decode .clen 19) = none ∧
    got (decode .zhdr 0x9C79) = none ∧ got (decode .lfh 0x02014B50) = none := by decide

/-- The instruction at the decompressor's cursor. -/
def atCursor (s : State) : Option Instr := (fetchInstr s).map Prod.fst

/-- Stream bytes written out bit by bit: a final fixed header 1, 01; literal 0x61 as 10010001 MSB first (R160); length code 265 as
0001001 with extra bit 1 (R161); distance code 4 as 00100 with extra bit 1 (R162). -/
theorem test_stream_symbols :
    atCursor (inflAt .blockHeader .none [0b00000011]) = some (.blockFixed true) ∧
    atCursor (inflAt .huffmanDecode .none [0b10001001]) = some (.lit 0x61) ∧
    atCursor (inflAt .huffmanDecode .none [0b11001000]) = some (.len265 1) ∧
    atCursor (inflAt .huffmanDecode (.dist 3) [0b00100100]) = some (.dist4 1) := by decide

/-- A zlib header and a trailer in their stream order (R150, R152). -/
theorem test_stream_wrapper :
    atCursor (inflAt .header .none [0x78, 0x9C]) = some (.zlibHeader 7 0x9C) ∧
    atCursor (inflAt .checksum .none [0x06, 0x2C, 0x02, 0x15]) = some (.zlibTrailer 0x062C0215) := by decide

/-- A code-length symbol with its extra bits: code 18 of two codes of one bit, 1, then E = 5 in 7 bits (R163). -/
theorem test_stream_code_length :
    atCursor { inflAt .blockHeader .clens [0b00001011] with
      d2 := ⟨List.replicate 17 0 ++ [1, 1], true⟩ } = some (.clZeroLong 5) := by decide

/-- Some table words of the opcode table (log 18). -/
theorem test_table_words :
    decodeTableWord 8 0x83 = some .compress ∧ decodeTableWord 32 0x04034B50 = some .zipLocalHeader := by decide

/-! ## One step against the vectors of spec/95_test_vectors.md and of the rules named -/

/-- V-SYS-3: ERRCODE 0x440, ERRINFO 2, UERR. -/
theorem test_illegal :
    let t := after (step (withHost (.write 0x04 4 0x02)))
    t.errCode = 0x440 ∧ t.errInfo = 2 ∧ status t = 4 := by decide

/-- V-SYS-6: CTRL, IN, IN_END and OUT stay; ADLER is 1. -/
theorem test_reset :
    let t := after (exec .reset { withIn [0x61, 0x62] with ctrl := 0x13, adler := 0x1234, inEnd := true, outq := [0x78] })
    t.ctrl = 0x13 ∧ t.inq = [0x61, 0x62] ∧ t.inEnd = true ∧ t.outq = [0x78] ∧ t.adler = 1 := by decide

/-- V-SYS-7: a command word while BUSY sets DROP, and the hold goes on. -/
theorem test_drop :
    let t := after (step { withHost (.write 0x04 4 0) with busy := true, wait := .inBytes 1, latCmd := 0x92 })
    t.drop = true ∧ t.busy = true ∧ t.wait = .inBytes 1 := by decide

/-- V-SYS-8: a reserved offset reads 0. -/
theorem test_reserved_offset : (after (step { withHost (.read 0x50 4) with rdata := 7 })).rdata = 0 := by decide

/-- V-CK-3: "Wikipedia". -/
theorem test_adler :
    (after (exec .adlerUpdate (withIn0 [0x57, 0x69, 0x6B, 0x69, 0x70, 0x65, 0x64, 0x69, 0x61] 9))).res.r0 = 0x11E60398 := by
  decide

/-- V-CK-5: unreduced halves are reduced by the first byte. -/
theorem test_adler_unreduced :
    (after (exec .adlerUpdate { withIn0 [0x61] 1 with adler := 0xFFFFFFFF })).adler = 0x007D006F := by decide

/-- V-CK-7: "123456789". -/
theorem test_crc :
    (after (exec .crcUpdate (withIn0 [0x31, 0x32, 0x33, 0x34, 0x35, 0x36, 0x37, 0x38, 0x39] 9))).crc = 0xCBF43926 := by decide

/-- V-CK-13: SHORT_INPUT consumes nothing. -/
theorem test_adler_short :
    let t := after (exec .adlerUpdate { withIn0 [0x61, 0x62] 3 with inEnd := true })
    t.errCode = 0x44A ∧ t.errInfo = 0x11 ∧ t.inq = [0x61, 0x62] ∧ t.adler = 1 := by decide

/-- V-HENC-1's tree. -/
def tree2 : HTree := { HTree.reset 19 with freq := [5, 1, 1, 2] ++ List.replicate 15 0 }

/-- V-HENC-1's tree after both builds. -/
def tree2Built : HTree := { tree2 with
  len := [1, 3, 3, 2] ++ List.replicate 15 0
  code := [0, 3, 7, 1] ++ List.replicate 15 0
  tBuilt := true
  cBuilt := true }

/-- V-HENC-1. -/
theorem test_henc_build_tree :
    let t := after (exec (.hencBuildTree 2) { State.reset with t2 := tree2 })
    t.t2.len = tree2Built.len ∧ t.res.r0 = 3 := by decide

/-- V-HENC-7. -/
theorem test_henc_build_codes :
    (after (exec (.hencBuildCodes 2) { State.reset with t2 := { tree2Built with code := [], cBuilt := false } })).t2.code
      = tree2Built.code := by decide

/-- V-HENC-8. -/
theorem test_henc_estimate :
    (after (exec (.hencEstimate 2) { State.reset with t2 := tree2Built })).res.r0 = 15 := by decide

/-- V-HENC-9. -/
theorem test_henc_encode :
    (after (exec (.hencEncode 2 2) { State.reset with t2 := tree2Built })).bw = ⟨7, 3, []⟩ := by decide

/-- V-HENC-14: the frequency wraps. -/
theorem test_henc_record_wraps :
    (after (exec (.hencRecord 2 3) { State.reset with
      t2 := { tree2 with freq := [0, 0, 0, 0xFFFFFFFF] ++ List.replicate 15 0 } })).t2.freq.getD 3 9 = 0 := by decide

/-- V-HDEC-1. -/
theorem test_hdec_build :
    let t := after (exec (.hdecBuild 2) (withIn0 [2, 1, 3, 3] 4))
    t.res.r0 = 32768 ∧ t.d2 = ⟨[2, 1, 3, 3], true⟩ := by decide

/-- V-HDEC-2: oversubscribed; the bytes are consumed. -/
theorem test_hdec_oversubscribed :
    let t := after (exec (.hdecBuild 2) (withIn0 [1, 1, 1] 3))
    t.errCode = 0x108 ∧ t.d2.built = false ∧ t.inq = [] := by decide

/-- V-HDEC-8: 89 is literal 0x61 of the fixed code. -/
theorem test_hdec_decode :
    let t := after (exec (.hdecDecode 0) { withIn [0x89] with d0 := ⟨fixedLL, true⟩ })
    t.res.r0 = 0x61 ∧ t.res.r1 = 0 ∧ t.br.n = 0 := by decide

/-- V-HDEC-9: eight bits that begin two nine-bit codes. -/
theorem test_hdec_insufficient :
    let t := after (exec (.hdecDecode 0) { withIn [0x13] with d0 := ⟨fixedLL, true⟩ })
    t.res.r0 = 0 ∧ t.res.r1 = 1 ∧ t.br.n = 8 := by decide

/-- V-BW-3: sixteen bits after seven. -/
theorem test_bw_write_bits :
    (after (exec (.bwWriteBits 16 0xFFFF) { State.reset with bw := ⟨0x7F, 7, []⟩ })).bw = ⟨0x7F, 7, [0xFF, 0xFF]⟩ := by decide

/-- V-BW-4: a value that does not fit. -/
theorem test_bw_write_bits_bad :
    let t := after (exec (.bwWriteBits 3 8) State.reset)
    t.errCode = 0x443 ∧ t.errInfo = 0x50 := by decide

/-- V-BW-7: both byte orders. -/
theorem test_bw_shorts :
    (after (exec (.bwWriteShortLe 0x1234) State.reset)).bw.pending = [0x34, 0x12] ∧
    (after (exec (.bwWriteShortBe 0x1234) State.reset)).bw.pending = [0x12, 0x34] := by decide

/-- V-BW-8, V-BW-9. -/
theorem test_bw_ints :
    (after (exec .bwWriteIntLe (withArgs 0x04034B50 0 0 0))).bw.pending = [0x50, 0x4B, 0x03, 0x04] ∧
    (after (exec .bwWriteIntBe (withArgs 0x062C0215 0 0 0))).bw.pending = [0x06, 0x2C, 0x02, 0x15] := by decide

/-- V-BW-11: bits are held. -/
theorem test_bw_bytes_unaligned :
    let t := after (exec .bwWriteBytes { withIn0 [0xAB] 1 with bw := ⟨0, 3, []⟩ })
    t.errCode = 0x551 ∧ t.inq = [0xAB] := by decide

/-- V-BR-1: the byte is popped, no bit is consumed. -/
theorem test_br_peek :
    let t := after (exec (.brPeek 4) (withIn [0xB5]))
    t.res.r0 = 5 ∧ t.res.r1 = 0 ∧ t.br = ⟨0xB5, 8⟩ ∧ t.inq = [] := by decide

/-- V-BR-7: the popped byte stays. -/
theorem test_br_skip_short :
    let t := after (exec (.brSkip 9) (withIn [0x01]))
    t.errCode = 0x44A ∧ t.errInfo = 0x61 ∧ t.br.n = 8 := by decide

/-- V-BR-9: half from the accumulator. -/
theorem test_br_read16 :
    let t := after (exec .brRead16Le { withIn [0x12] with br := ⟨0x34, 8⟩ })
    t.res.r0 = 0x1234 ∧ t.br.n = 0 := by decide

/-- V-BR-11, V-BR-12. -/
theorem test_br_read32 :
    (after (exec .brRead32Le (withIn [0x50, 0x4B, 0x05, 0x06]))).res.r0 = 0x06054B50 ∧
    (after (exec .brRead32Be (withIn [0x06, 0x2C, 0x02, 0x15]))).res.r0 = 0x062C0215 := by decide

/-- "abcabcabc" in the window, loaded at 1 with the given cursor and chains. -/
def abcLz (cur look : Nat) (head : List (Nat × Nat)) : Lz :=
  { Lz.reset with
    win := cellPut [] 1 [0x61, 0x62, 0x63, 0x61, 0x62, 0x63, 0x61, 0x62, 0x63]
    strStart := cur
    lookahead := look
    head := head }

/-- V-LZ-4: three positions inserted; HEAD[0x0823] = 1. -/
theorem test_lz_advance :
    let t := after (exec .lzAdvance { withArgs 3 1 0 0 with lz := abcLz 1 9 [] })
    t.res.r0 = 4 ∧ t.lz.lookahead = 6 ∧ headAt t.lz 0x0823 = 1 := by decide

/-- V-LZ-5: length 6 at distance 3. -/
theorem test_lz_find :
    (after (exec .lzFind { State.reset with lz := abcLz 4 6 [(0x0823, 1)] })).res = ⟨6, 3, 1, 0⟩ := by decide

/-- 46_lz77_compressor.md R416: the empty stream at level 6. -/
theorem test_compress_empty :
    (after (exec .compress { State.reset with inEnd := true })).outq
      = [0x78, 0x9C, 0x03, 0x00, 0x00, 0x00, 0x00, 0x01] := by decide

/-- V-INFL-6: raw "hello", with the bits left in the reader. -/
theorem test_decompress_raw :
    let t := after (exec .decompress { withIn [0xCB, 0x48, 0xCD, 0xC9, 0xC9, 0x07, 0x00] with ctrl := 0x8D, inEnd := true })
    t.outq = hello ∧ t.res = ⟨5, 7, 0x062C0215, 6⟩ := by decide

/-- V-INFL-11: the stream ends early and IN is open. -/
theorem test_decompress_holds :
    let t := after (exec .decompress { withIn [0x78, 0x9C, 0xCB, 0x48] with busy := true })
    t.outq = [0x68] ∧ t.inq = [] ∧ t.wait = .inBytes 1 ∧ t.busy = true := by decide

/-- A copy at distance 1 of length 3 repeats one byte (47_deflate_decompressor.md R461). -/
theorem test_dist_overlap :
    let s := inflAt .huffmanDecode (.dist 3) []
    (after (exec .dist0 { s with infl := { s.infl with owin := [(0, 0x61)], owpos := 1, total := 1 } })).outq
      = [0x61, 0x61, 0x61] := by decide

/-- 47_deflate_decompressor.md R461: a distance beyond what was produced is DIST_TOO_FAR. -/
theorem test_dist_too_far : (after (exec .dist0 (inflAt .huffmanDecode (.dist 3) []))).errCode = 0x10C := by decide

/-- 47_deflate_decompressor.md R454: a method other than 8 in a header that is a multiple of 31. -/
theorem test_zlib_method :
    (after (step (inflAt .header .none [0x79, 0x94]))).errCode = 0x330 := by decide

/-- V-ZIP-5: the name exists. -/
theorem test_zip_dup_name :
    let t := after (exec .zipAddItem { archive [entryA []] with inq := [0x61, 0x78], lat := ⟨1, 1, 0, 8⟩ })
    t.errCode = 0x444 ∧ t.zip.entries.length = 1 := by decide

/-- V-ZIP-14: the directory's name gains its separator. -/
theorem test_zip_add_dir :
    (after (exec .zipAddDir { archive [] with inq := [0x64, 0x2F, 0x78], lat := ⟨3, 0, 0x10, 0⟩ })).zip.entries.map Entry.name
      = [[0x64, 0x2F, 0x78, 0x2F]] := by decide

/-- V-ZIP-13: no archive is open. -/
theorem test_zip_closed : (after (exec .zipSave State.reset)).errCode = 0x446 := by decide

/-- 48_zip_container.md R542, R544: a stored entry's header begins with its signature and version, and LE_4 of the CRC of its data
(V-CK-8) stands at offset 14. -/
theorem test_zip_save_stored :
    let out := (after (exec .zipSave (archive [entryA hello]))).outq
    out.take 6 = [0x50, 0x4B, 0x03, 0x04, 0x14, 0x00] ∧ (out.drop 14).take 4 = [0x86, 0xA6, 0x10, 0x36] := by decide

/-- V-HENC-1's frequencies with a row of HUFF_LENGTHS' table that meets 43_huffman_encoder.md R250, and one that does not. -/
theorem test_henc_lengths_row :
    let s := fun len => { State.reset with
      t2 := tree2, params := { Params.default with lengths := [⟨tree2.freq.map BitVec.toNat, 7, some len⟩] } }
    (after (exec (.hencBuildTree 2) (s ([2, 2, 2, 2] ++ List.replicate 15 0)))).res.r0 = 2 ∧
    (after (exec (.hencBuildTree 2) (s ([1, 1, 1, 1] ++ List.replicate 15 0)))).res.r0 = 3 := by decide

/-- "abc" before the cursor and "abcabc" ahead, with a row of MATCH_FINDER's table for it that links the cursor. -/
def finderAt (c : Option (Nat × Nat)) : State :=
  { State.reset with
    lz := abcLz 4 6 []
    defl := { Defl.reset with input := [0x61, 0x62, 0x63, 0x61, 0x62, 0x63, 0x61, 0x62, 0x63] }
    params := { Params.default with
      finder := [⟨DeflParams.reset, [0x61, 0x62, 0x63], [0x61, 0x62, 0x63, 0x61, 0x62, 0x63], c, [0]⟩] } }

/-- 46_lz77_compressor.md R370: a chosen match is taken, one beyond the lookahead or at a wrong distance is not. -/
theorem test_finder_row :
    (deflStep (finderAt (some (6, 3)))).defl.pairs = [(6, 3)] ∧ (deflStep (finderAt none)).defl.pairs = [(0x61, 0)] ∧
    (deflStep (finderAt (some (7, 3)))).defl.pairs = [] ∧ (deflStep (finderAt (some (3, 2)))).defl.pairs = [] := by decide

/-- R370: the distance is bounded by the input since DEFL_RESET; the row's links are made (R380). -/
theorem test_finder_links :
    (deflStep (finderAt (some (6, 3)))).lz.head = [(0x0823, 4)] ∧ (deflStep (finderAt (some (6, 3)))).lz.strStart = 10 ∧
    matchOk (finderAt none) 3 3 = true ∧ matchOk (finderAt none) 3 4 = false := by decide

/-- A compressor that holds the literal "a" and has searched all its input. -/
def finishing : State :=
  { State.reset with
    bw := ⟨0, 0, [0x78, 0x9C]⟩
    lz := { Lz.reset with win := [(1, 0x61)], strStart := 2, matchAvail := true }
    defl := { Defl.reset with phase := .filling, adler := 0x00620062 } }

/-- 46_lz77_compressor.md R400, 43_huffman_encoder.md R263: T1's build fails; T0 is built, T1 counted, DEFL_STATE is ERROR. -/
theorem test_flush_heap_invariant :
    let df := (blockStats []).df
    let r := (after (exec .deflFinish { finishing with
      lz := Lz.reset, params := { Params.default with lengths := [⟨df, 15, none⟩] } }))
    r.errCode = 0x550 ∧ r.errInfo = 0 ∧ r.defl.phase = .error ∧ r.t0.cBuilt = true ∧ r.t0.freq.getD 256 0 = 1 ∧
      r.t1.tBuilt = false ∧ r.t1.freq.length = 30 ∧ r.t2 = State.reset.t2 := by decide

/-- 43_huffman_encoder.md R261's example, on a built tree, and the symbol's check before any other. -/
theorem test_henc_query :
    (after (exec (.hencQuery 2 3) { State.reset with t2 := { tree2Built with blCount := [0, 1, 1, 2] }, lat := ⟨3, 0, 0, 0⟩ })).res
      = ⟨2, 2, 1, 2⟩ ∧
    (after (exec (.hencQuery 2 19) State.reset)).errCode = 0x443 := by decide

/-- 10_state.md R95: a push into a full IN leaves it as it is. -/
theorem test_in_full :
    (after (step { withHost (.write 0x14 4 0xAB) with inq := [1], params := { Params.default with inCap := some 1 } })).inq = [1] ∧
    (after (step { withHost (.write 0x14 4 0xAB) with inq := [1], params := { Params.default with inCap := some 2 } })).inq
      = [1, 0xAB] := by decide

/-- NAME_HOOK's table turns "a" into "b" (48_zip_container.md R513). -/
theorem test_name_hook :
    (after (exec .zipAddItem { archive [] with
      inq := [0x61], lat := ⟨1, 0, 0, 0⟩, params := { Params.default with hook := [⟨[0x61], [0x62]⟩] } })).zip.entries.map
        Entry.name = [[0x62]] := by decide

/-- 60_exceptions.md R615: UNIT_BUSY before ARCHIVE_CLOSED, the alignment check before BAD_ARG. -/
theorem test_priority :
    (after (exec .zipItemData { State.reset with infl := { Infl.reset with phase := .header } })).errCode = 0x442 ∧
    (after (exec .bwWriteBytes { withIn0 [] 3 with
      bw := ⟨0, 3, []⟩, params := { Params.default with inCap := some 2 } })).errCode = 0x551 := by decide

/-- 70_reset_and_hazards.md R701: the hardware reset ends a hold. -/
theorem test_hw_reset :
    after (step { withHost .hwReset with busy := true, wait := .inEnd, latCmd := 0xA1, adler := 7 }) = State.reset := by decide

/-- OUT_CAPACITY. -/
def outCap (n : Nat) : Params := { Params.default with outCap := some n }

/-! ## Witnesses: a state and operands that meet a statement's hypotheses, clause by clause, at a boundary of each clause's range -/

/-- A step that gives a next state, as the equation the statements' hypotheses have. -/
theorem next_of_ran {o : Host.Outcome State Fault Refusal} (h : ran o = true) : o = .next (after o) := by
  cases o with
  | next s => rfl
  | fault f => cases h
  | refused r => cases h

theorem wit_DecodeOfEncodeIsIdentity : (Instr.dist29 8191).wellFormed = true := by decide

theorem wit_WireWordHasOneReading :
    decode .bhdr 7 = .ok (.blockReserved true) ∧ decode .litlen (284 + 512 * 31) = .ok (.len284 31) ∧
    decode .dist (29 + 32 * 8191) = .ok (.dist29 8191) ∧ decode .clen 15 = .ok (.clLen 15) := ⟨rfl, rfl, rfl, rfl⟩

/-- Both ends of every unassigned range. -/
theorem wit_UnassignedOpcodeIsIllegal :
    (withHost (.write 0x04 4 0x02)).busy = false ∧
    (withHost (.write 0x04 4 0x02)).host = .write 0x04 4 0x02 :: [] ∧
    ([0x02, 0x0F, 0x12, 0x1F, 0x22, 0x2F, 0x37, 0x3F, 0x43, 0x4F, 0x5A, 0x5F, 0x69, 0x6F, 0x74, 0x7F, 0x84, 0x8F, 0x93, 0x9F,
      0xAF, 0xFF].all fun o => cmdOpc (BitVec.ofNat 32 o) == o && got (decodeCmd (BitVec.ofNat 32 o)) == none) = true := by
  decide

/-- A command word from the host, and ZIP_OPEN that held for IN_END. -/
theorem wit_StepRunsTheCommandWord :
    (let s := withHost (.write 0x04 4 0x11)
     s.busy = false ∧ s.host = [.write 0x04 4 0x11] ∧ got (decodeCmd 0x11) = some .adlerUpdate) ∧
    (let s := { State.reset with busy := true, wait := .inEnd, inEnd := true, latCmd := 0xA1 }
     s.busy = true ∧ waitOver s = true ∧ s.tasks = [] ∧ got (decodeCmd s.latCmd) = some .zipOpen) := by decide

/-- The word a fetch gives. -/
def fetched (f : Fetch) : Option (Fmt × Nat) :=
  match f with
  | .word f w _ => some (f, w)
  | .other _ => none
  | .finished => none

theorem wit_StepRunsTheWireSymbol :
    (let s := inflAt .huffmanDecode .none [0x89]
     s.busy = true ∧ waitOver s = true ∧ s.tasks = .infl :: [.inflRes] ∧
       fetched (inflFetch { s with wait := .none }) = some (.litlen, 0x61) ∧ got (decode .litlen 0x61) = some (.lit 0x61)) ∧
    (let s := State.reset.withFetchWord 32 0x06054B50
     s.busy = true ∧ waitOver s = true ∧ s.tasks = [.zipParse] ∧
       fetched (zipFetch { s with wait := .none }) = some (.eocd, 0x06054B50)) ∧
    (let t := inflAt .huffmanDecode .none [0x89]
     t.busy = true ∧ t.wait = .none) ∧
    State.reset.busy = false := by decide

/-- Idle, and a busy block that holds; each with a write of each offset. -/
theorem wit_HostWritesTakeEffectAsTheRegisterMapSays :
    engineMoves State.reset = false ∧
    (let s := { withHost (.write 0x04 4 0) with busy := true, wait := .inEnd }
     engineMoves s = false ∧ s.busy = true ∧ s.host = [.write 0x04 4 0]) ∧
    (withHost (.write 0x14 4 0xAB)).inEnd = false ∧ { withHost (.write 0x14 4 0xAB) with inEnd := true }.inEnd = true ∧
    inFull (withHost (.write 0x14 4 0xAB)) = false ∧
    inFull { withHost (.write 0x14 4 0xAB) with inq := [0], params := { Params.default with inCap := some 1 } } = true ∧
    (1 : Word).getLsbD 0 = true ∧ (1 : Word).getLsbD 1 = false ∧ (2 : Word).getLsbD 0 = false ∧ (2 : Word).getLsbD 1 = true ∧
    (3 : Word).getLsbD 0 = true ∧ (3 : Word).getLsbD 1 = true ∧
    (let s := withHost (.write 0x04 2 0)
     engineMoves s = false ∧ s.host = [.write 0x04 2 0] ∧ 2 ≠ 4) ∧ (0x06 : BitVec 8).toNat % 4 ≠ 0 ∧
    0x50 ≤ (0x50 : BitVec 8).toNat ∧ (0x50 : BitVec 8).toNat % 4 = 0 ∧ (0xFC : BitVec 8).toNat % 4 = 0 := by decide

theorem wit_HostReadsReturnTheRegister :
    (let s := withHost (.read 0x20 4)
     engineMoves s = false ∧ s.host = [.read 0x20 4] ∧ s.outq = []) ∧
    { withHost (.read 0x20 4) with outq := [0xFF] }.outq = 0xFF :: [] ∧
    (let s := withHost (.read 0x22 4)
     engineMoves s = false ∧ s.host = [.read 0x22 4] ∧ (0x22 : BitVec 8).toNat % 4 ≠ 0) := by decide

/-- Idle, and while a command holds. -/
theorem wit_ResetValues :
    (let s := withHost .hwReset
     engineMoves s = false ∧ s.host = .hwReset :: []) ∧
    (let s := { withHost .hwReset with busy := true, wait := .inEnd }
     engineMoves s = false ∧ s.host = .hwReset :: []) := by decide

theorem wit_NopOnlyClearsTheReport :
    cmdOpc 0xFFFFFF00 = 0x00 ∧
    (let s := withHost (.write 0x04 4 0xFFFFFF00)
     s.busy = false ∧ s.host = [.write 0x04 4 0xFFFFFF00]) := by decide

theorem wit_ResetCommandResetsAllButHostData : cmdOpc 0xABCD1201 = 0x01 := by decide

/-- Above the capacity; exactly enough bytes; one short with IN ended and open; and the opcodes. -/
theorem wit_ChecksumInitAndUpdate :
    cmdOpc 0xFFFFFF10 = 0x10 ∧ cmdOpc 0xFFFFFF11 = 0x11 ∧ cmdOpc 0xFFFFFF20 = 0x20 ∧ cmdOpc 0xFFFFFF21 = 0x21 ∧
    overInCap { withIn0 [] 3 with params := { Params.default with inCap := some 2 } } 3 = true ∧
    (let s := { withIn0 [1, 2] 2 with params := { Params.default with inCap := some 2 } }
     overInCap s s.lat.r0.toNat = false ∧ s.lat.r0.toNat ≤ s.inq.length) ∧
    (let s := { withIn0 [1] 2 with inEnd := true }
     overInCap s s.lat.r0.toNat = false ∧ s.inq.length < s.lat.r0.toNat ∧ s.inEnd = true) ∧
    (let s := withIn0 [1] 2
     s.inq.length < s.lat.r0.toNat ∧ s.inEnd = false) := by decide

theorem wit_AdlerSumsModulo65521 : ([0xFF] : Bytes) ≠ [] := by decide

/-- The last symbol of T2 and the first beyond it. -/
theorem wit_EncoderTreeRegisters :
    selOf 2 = some .two ∧ State.reset.defl.phase.active = false ∧ (18 : BitVec 16).toNat < Sel.two.nsym ∧
    Sel.two.nsym ≤ (19 : BitVec 16).toNat ∧ 2 < (3 : BitVec 8).toNat ∧
    (getTree { State.reset with t2 := tree2Built } .two).tBuilt = true ∧ (getTree State.reset .two).tBuilt = false := by decide

/-- The reference, a row of the table, and a row that fails; a built and an unbuilt tree; N = 3. -/
theorem wit_EncoderBuildsTreesAndCodes :
    selOf 2 = some .two ∧ State.reset.defl.phase.active = false ∧ State.reset.params.lengths = [] ∧
    lengthsFor Params.default [5, 1, 1, 2] 7 = some [1, 3, 3, 2] ∧
    lengthsFor { Params.default with lengths := [⟨[5, 1, 1, 2], 7, some [2, 2, 2, 2]⟩] } [5, 1, 1, 2] 7 = some [2, 2, 2, 2] ∧
    lengthsFor { Params.default with lengths := [⟨[5, 1, 1, 2], 7, none⟩] } [5, 1, 1, 2] 7 = none ∧
    (getTree { State.reset with t2 := tree2Built } .two).tBuilt = true ∧ (getTree State.reset .two).tBuilt = false ∧
    2 < (3 : BitVec 8).toNat := by decide

/-- A length-16 code at the greatest value, and each refusal. -/
theorem wit_EncodeWritesTheSymbolsCode :
    (let s := { State.reset with t2 := { tree2Built with len := [16, 0], code := [0xFFFF, 0] } }
     selOf 2 = some .two ∧ s.defl.phase.active = false ∧ (0 : BitVec 16).toNat < Sel.two.nsym ∧
       (getTree s .two).cBuilt = true ∧ 0 < (getTree s .two).len.getD 0 0 ∧ (getTree s .two).len.getD 0 0 ≤ 16 ∧
       (getTree s .two).code.getD 0 0 < 2 ^ (getTree s .two).len.getD 0 0 ∧ WriterReady s ∧
       (getTree s .two).len.getD 1 0 = 0) ∧
    Sel.two.nsym ≤ (19 : BitVec 16).toNat ∧ (getTree State.reset .two).cBuilt = false ∧
    2 < (3 : BitVec 8).toNat := by
  unfold WriterReady; decide

/-- Two used symbols at the limit of one bit. -/
theorem wit_LengthAssignmentIsCompleteAndLimited :
    1 ≤ 1 ∧ 1 ≤ 15 ∧ 2 ≤ [1, 0, 1].countP (fun f => decide (0 < f)) ∧
    [1, 0, 1].countP (fun f => decide (0 < f)) ≤ 2 ^ 1 ∧ lengthsFor Params.default [1, 0, 1] 1 = some [1, 0, 1] := by decide

theorem wit_DegenerateTreesHaveTwoSymbols :
    2 ≤ [0, 0].length ∧ (∀ s, [0, 0].getD s 0 = 0) ∧ (0 < [5, 0].getD 0 0 ∧ ∀ s, s ≠ 0 → [5, 0].getD s 0 = 0) ∧
    (0 < [0, 5].getD 1 0 ∧ ∀ s, s ≠ 1 → [0, 5].getD s 0 = 0) := by
  refine ⟨by decide, fun s => ?_, ⟨by decide, fun s h => ?_⟩, by decide, fun s h => ?_⟩ <;>
    match s with
    | 0 => first | rfl | exact absurd rfl h
    | 1 => first | rfl | exact absurd rfl h
    | _ + 2 => rfl

/-- A complete code with the greatest length 15. -/
theorem wit_CanonicalCodesArePrefixFree :
    let len := [1, 2, 3, 4, 5, 6, 7, 8, 9, 10, 11, 12, 13, 14, 15, 15]
    (∀ l ∈ len, l ≤ 15) ∧ kraft len ≤ 32768 ∧ 14 ≠ 15 ∧ 0 < len.getD 14 0 ∧ len.getD 14 0 ≤ len.getD 15 0 := by decide

/-- Each ending of HDEC_BUILD, at the size of the table where the clause has one. -/
theorem wit_DecoderBuildsTables :
    selOf 2 = some .two ∧ State.reset.infl.phase.active = false ∧
    (let s := withIn0 (List.replicate 15 0 ++ [2, 1, 3, 3]) 19
     let len := (s.inq.take 19).map BitVec.toNat
     19 ≤ Sel.two.size ∧ overInCap s 19 = false ∧ 19 ≤ s.inq.length ∧ (∀ l ∈ len, l ≤ 15) ∧ kraft len ≤ 32768) ∧
    (let s := withIn0 [1, 1, 1] 3
     let len := (s.inq.take 3).map BitVec.toNat
     3 ≤ s.inq.length ∧ (∀ l ∈ len, l ≤ 15) ∧ 32768 < kraft len) ∧
    (∃ l ∈ ((withIn0 [1, 16] 2).inq.take 2).map BitVec.toNat, 15 < l) ∧ Sel.two.size < 20 ∧
    selOf 0 = some .zero ∧ selOf 1 = some .one ∧ 2 < (3 : BitVec 8).toNat := by decide

/-- What CountedRefusals asks for a command of k = 3 bytes: above IN_CAPACITY; one byte short with IN ended, and open. -/
theorem wit_CountedRefusals :
    overInCap { withIn0 [] 3 with params := { Params.default with inCap := some 2 } } 3 = true ∧
    (let s := { withIn0 [0x61, 0x62] 3 with inEnd := true }
     overInCap s 3 = false ∧ s.inq.length < 3 ∧ s.inEnd = true ∧ s.bw.n = 0 ∧ 3 ≤ Sel.two.size ∧
       3 ≤ 65536 - s.lz.strStart - s.lz.lookahead) ∧
    (let s := withIn0 [0x61, 0x62] 3
     overInCap s 3 = false ∧ s.inq.length < 3 ∧ s.inEnd = false) := by decide

/-- A symbol, too few bits that begin a code, no code at all, and an unbuilt table. -/
theorem wit_DecodeCommandReadsOneSymbol :
    selOf 2 = some .two ∧ State.reset.infl.phase.active = false ∧
    (let s := { withIn [0xDA] with d2 := ⟨[1, 3, 3, 2], true⟩ }
     (getTable s .two).built = true ∧
       decodeSym (getTable s .two).len ⟨s.br.acc, s.br.n, s.inq, 0⟩ = (.sym 0, ⟨0x6D, 7, [], 1⟩)) ∧
    (let s := { State.reset with d2 := ⟨[1, 3, 3, 2], true⟩, br := ⟨1, 1⟩ }
     decodeSym (getTable s .two).len ⟨s.br.acc, s.br.n, s.inq, 0⟩ = (.short, ⟨1, 1, [], 0⟩) ∧
       shortIsPrefix (getTable s .two).len ⟨1, 1, [], 0⟩ = true) ∧
    (let s := { withIn [0xFF, 0xFF] with d2 := ⟨[], true⟩ }
     decodeSym (getTable s .two).len ⟨s.br.acc, s.br.n, s.inq, 0⟩ = (.invalid, ⟨0xFFFF, 16, [], 2⟩)) ∧
    (let s := { State.reset with d2 := ⟨[], true⟩ }
     decodeSym (getTable s .two).len ⟨s.br.acc, s.br.n, s.inq, 0⟩ = (.short, ⟨0, 0, [], 0⟩) ∧
       shortIsPrefix (getTable s .two).len ⟨0, 0, [], 0⟩ = false) ∧
    (getTable State.reset .two).built = false ∧ 2 < (3 : BitVec 8).toNat := by decide

/-- The longest code, with exactly its bits held. -/
theorem wit_DecodeInvertsTheEncodersCodes :
    let len := [1, 2, 3, 4, 5, 6, 7, 8, 9, 10, 11, 12, 13, 14, 15, 15]
    let b : BitSrc := ⟨0x7FFF, 15, [], 0⟩
    (∀ l ∈ len, l ≤ 15) ∧ kraft len ≤ 32768 ∧ 0 < len.getD 15 0 ∧ len.getD 15 0 ≤ b.n ∧
      b.acc.toNat % 2 ^ len.getD 15 0 = (revCodes len).getD 15 0 := by decide

/-- Sixteen bits after seven; one too many; one value too great. -/
theorem wit_WriteBitsAppendsTheBits :
    State.reset.defl.phase.active = false ∧
    ((16 : BitVec 8).toNat ≤ 16 ∧ (0xFFFF : BitVec 16).toNat < 2 ^ (16 : BitVec 8).toNat ∧
      WriterReady { State.reset with bw := ⟨0x7F, 7, []⟩ }) ∧
    16 < (17 : BitVec 8).toNat ∧ 2 ^ (3 : BitVec 8).toNat ≤ (8 : BitVec 16).toNat := by unfold WriterReady; decide

theorem wit_WriterAlignsAndAppendsRawBytes :
    State.reset.defl.phase.active = false ∧
    (let s := { State.reset with bw := ⟨1, 1, []⟩ }
     0 < s.bw.n ∧ s.bw.pending.length + 1 ≤ Config.pendingCap ∧ s.bw.n ≠ 0) ∧
    (let s := withIn0 [1, 2] 2
     s.bw.n = 0 ∧ overInCap s s.lat.r0.toNat = false ∧ s.lat.r0.toNat ≤ s.inq.length ∧
       s.bw.pending.length + s.lat.r0.toNat ≤ Config.pendingCap ∧ s.bw.pending.length + 4 ≤ Config.pendingCap) := by decide

/-- OUT unbounded, with exactly room, with room for one byte of two, and full. -/
theorem wit_WriterFlushResetAndStatus :
    State.reset.defl.phase.active = false ∧ outRoom State.reset State.reset.bw.pending.length = State.reset.bw.pending.length ∧
    (let s := { State.reset with params := outCap 2, bw := ⟨0, 0, [0x55, 0x66]⟩ }
     outRoom s s.bw.pending.length = s.bw.pending.length) ∧
    (let s := { State.reset with params := outCap 2, outq := [0], bw := ⟨0, 0, [0x55, 0x66]⟩ }
     s.params.outCap = some 2 ∧ 2 < s.outq.length + s.bw.pending.length ∧ s.bw.pending ≠ []) ∧
    (let s := { State.reset with params := outCap 1, outq := [0], bw := ⟨0, 0, [0x55]⟩ }
     s.params.outCap = some 1 ∧ 1 < s.outq.length + s.bw.pending.length ∧ s.bw.pending ≠ []) := by decide

/-- Exactly sixteen bits ahead, then one too few, and seventeen asked. -/
theorem wit_PeekAndSkipTakeTheNextBits :
    State.reset.infl.phase.active = false ∧
    ((16 : BitVec 8).toNat ≤ 16 ∧ (withIn [0xB5, 0x01]).readerOk ∧
      (16 : BitVec 8).toNat ≤ bitsHeld (withIn [0xB5, 0x01])) ∧
    ((withIn [0xB5]).readerOk ∧ bitsHeld (withIn [0xB5]) < (9 : BitVec 8).toNat) ∧ 16 < (17 : BitVec 8).toNat := by
  unfold State.readerOk; decide

/-- Exactly enough bytes, one byte too few, and a reader off a byte boundary. -/
theorem wit_FixedReadsTakeWholeBytes :
    (withIn [1, 2, 3, 4]).infl.phase.active = false ∧ (withIn [1, 2, 3, 4]).readerOk ∧
    (withIn [1, 2, 3, 4]).br.n % 8 = 0 ∧ 16 ≤ bitsHeld (withIn [1, 2]) ∧ 32 ≤ bitsHeld (withIn [1, 2, 3, 4]) ∧
    bitsHeld (withIn [1]) < 16 ∧ bitsHeld (withIn [1, 2, 3]) < 32 ∧
    (let s := { State.reset with br := ⟨0xB, 4⟩ }
     s.readerOk ∧ s.br.n % 8 ≠ 0) := by unfold State.readerOk; decide

theorem wit_ReaderAlignResetAndAvail : State.reset.infl.phase.active = false := by decide

/-- Legal and illegal CTRL; a load that just fits and one too long; a match and none; prev_len 258 and 259. -/
theorem wit_MatchFinderResetLoadAndFind :
    State.reset.defl.phase.active = false ∧ ctrlBad State.reset = false ∧
    ctrlBad { State.reset with ctrl := 0x6C } = true ∧
    (let s := { withIn0 [1, 2] 2 with lz := { Lz.reset with strStart := 65534 } }
     s.lat.r0.toNat ≤ 65536 - s.lz.strStart - s.lz.lookahead ∧ overInCap s s.lat.r0.toNat = false ∧
       s.lat.r0.toNat ≤ s.inq.length) ∧
    (let s := { withArgs 3 0 0 0 with lz := { Lz.reset with strStart := 65534 } }
     65536 - s.lz.strStart - s.lz.lookahead < s.lat.r0.toNat) ∧
    258 < (withArgs 259 0 0 0).lat.r0.toNat ∧ (withArgs 258 0 0 0).lat.r0.toNat ≤ 258 ∧
    (let s := { State.reset with lz := abcLz 4 6 [(0x0823, 1)] }
     1 = (if 3 ≤ s.lz.lookahead then headAt s.lz (hash3 s.lz s.lz.strStart) else 0) ∧
       (6, 1) = (if 1 ≠ 0 ∧ s.lz.strStart - 1 ≤ 32768 then longest s.lz s.defl.params s.lz.strStart 1 0 else (2, 0)) ∧
       3 ≤ 6) ∧
    (let s := State.reset
     0 = (if 3 ≤ s.lz.lookahead then headAt s.lz (hash3 s.lz s.lz.strStart) else 0) ∧ 2 < 3) := by decide

theorem wit_AdvanceMovesTheCursor :
    (let s := { withArgs 9 0 0 0 with lz := { abcLz 1 9 [] with strStart := 65257 } }
     s.defl.phase.active = false ∧ s.lat.r0.toNat ≤ s.lz.lookahead ∧ s.lz.strStart + s.lat.r0.toNat < 65267 ∧
       s.lat.r1.getLsbD 0 = false) ∧
    (let s := { withArgs 1 1 0 0 with lz := abcLz 1 3 [] }
     s.lat.r0.toNat = 1 ∧ 3 ≤ s.lz.lookahead ∧ s.lz.strStart + 1 < 65267 ∧ s.lat.r1.getLsbD 0 = true) ∧
    (let s := { withArgs 7 0 0 0 with lz := abcLz 4 6 [] }
     s.lz.lookahead < s.lat.r0.toNat) := by decide

theorem wit_SlideMovesTheWindowDown :
    let z := { abcLz 40000 9 [(0x0823, 32768)] with prev := [(1, 32767)] }
    Memory.wf z.win = true ∧ Chain.wf z.head = true ∧ Chain.wf z.prev = true ∧ 32767 < 32768 ∧ 65535 < 65536 := by decide

/-- The search's match; a match and a literal that the table chooses. -/
theorem wit_EveryMatchFoundIsReal :
    (1 < 4 ∧ longest (abcLz 4 6 [(0x0823, 1)]) DeflParams.reset 4 1 0 = (6, 1) ∧ 3 ≤ 6) ∧
    ((finderChoice (finderAt (some (6, 3)))).map FindRow.take = some (some (6, 3)) ∧
      (finderAt (some (6, 3))).lz.matchAvail = false) ∧
    (finderChoice (finderAt none)).map FindRow.take = some none := by decide

/-- Legal and illegal CTRL; 268 loaded bytes at most; the other phases. -/
theorem wit_CompressorResetAndSmallInput :
    ctrlBad State.reset = false ∧ ctrlBad { State.reset with ctrl := 0x14 } = true ∧
    (let s := { withIn0 [0x61] 1 with
        defl := { Defl.reset with phase := .filling }, lz := { Lz.reset with lookahead := 267 } }
     s.defl.phase = .filling ∧ s.defl.fin = false ∧ overInCap s s.lat.r0.toNat = false ∧ s.lat.r0.toNat ≤ s.inq.length ∧
       s.lz.strStart < 65267 ∧ s.lz.lookahead + s.defl.stage.length + s.lat.r0.toNat < 269) ∧
    { Defl.reset with phase := .finished }.phase = .finished ∧ Defl.reset.phase ≠ .finished ∧ Defl.reset.phase ≠ .filling := by
  decide

/-- A literal held and nothing else, with what DEFL_FINISH gives; the empty input; and one byte. -/
theorem wit_FinishingTheStream :
    (let s := finishing
     s.defl.phase = .filling ∧ s.lz.lookahead = 0 ∧ s.defl.stage = [] ∧ s.lz.strStart < 65267 ∧ s.zip.saving = false ∧
       s.lz.matchAvail = true ∧ (planBlock s.params [(0x61, 0)]).isSome = true ∧ outRoom s 9 = 9 ∧
       (after (exec .deflFinish s)).outq = [0x78, 0x9C, 0x4B, 0x04, 0x00, 0x00, 0x62, 0x00, 0x62]) ∧
    (let s := { State.reset with inEnd := true }
     s.inq = [] ∧ s.inEnd = true ∧ s.ctrl = 0x8C ∧ s.params.lengths = [] ∧ outRoom s 8 = 8 ∧ s.zip.saving = false) ∧
    (let s := { withIn [0x61] with inEnd := true }
     s.inq = [0x61] ∧ s.inEnd = true ∧ s.ctrl = 0x8C ∧ s.zip.saving = false ∧ Memory.wf s.lz.win = true) ∧
    { Defl.reset with phase := .finished }.phase = .finished := by decide

/-- Each block type at level 6, stored at level 0; lengths with every kind of run; the ends of the match and distance ranges. -/
theorem wit_BlocksAreChosenAndWritten :
    (∀ l ∈ ([0, 0, 0, 5, 5, 5, 5, 15] : List Nat), l ≤ 15) ∧ 3 ≤ 258 ∧ 258 ≤ 258 ∧ 1 ≤ 32768 ∧ 32768 ≤ 32768 ∧ 6 ≠ 0 := by
  decide

theorem wit_DecompressorResetAndStreams :
    (let s := { withIn [0x78, 0x9C, 0x03, 0x00, 0x00, 0x00, 0x00, 0x01, 0xAA] with
        infl := { Infl.reset with phase := .header } }
     s.inq = [0x78, 0x9C, 0x03, 0x00, 0x00, 0x00, 0x00, 0x01] ++ [0xAA] ∧ ctrlNowrap s = false ∧ s.br = ⟨0, 0⟩ ∧
       s.infl = { Infl.reset with owin := s.infl.owin, phase := .header } ∧
       (after (exec .inflRun s)).res = ⟨0, 8, 1, 0⟩ ∧ (after (exec .decompress s)).inq = [0xAA]) ∧
    (let s := { withIn [0x01, 0x02, 0x00, 0xFD, 0xFF, 0x61, 0x62, 0xAA] with ctrl := 0x8D, params := outCap 2 }
     ([0x61, 0x62] : Bytes).length ≤ 65535 ∧ ctrlNowrap s = true ∧
       s.inq = [0x01] ++ le16 2 ++ le16 (65535 - 2) ++ [0x61, 0x62] ++ [0xAA] ∧ outRoom s 2 = 2 ∧
       (after (exec .decompress s)).outq = [0x61, 0x62] ∧ (after (exec .decompress s)).inq = [0xAA]) ∧
    { Infl.reset with phase := .done }.phase = .done ∧ Infl.reset.phase = .idle ∧
    { Infl.reset with phase := .error }.phase = .error := by decide

/-- Sixteen bits ahead, and one bit too few with IN open and ended. -/
theorem wit_ReadBitsTakesTheNextBits :
    (withIn [1, 2]).infl.src = .input ∧ (withIn [1, 2]).readerOk ∧ 16 ≤ bitsHeld (withIn [1, 2]) ∧
    (withIn [1]).readerOk ∧ bitsHeld (withIn [1]) < 9 ∧ (withIn [1]).inEnd = false ∧
    { withIn [1] with inEnd := true }.inEnd = true ∧
    (let d : DTable := ⟨[1, 3, 3, 2], true⟩
     decodeSym d.len ⟨0, 0, [0xDA], 0⟩ = (.sym 0, ⟨0x6D, 7, [], 1⟩) ∧
       decodeSym d.len ⟨1, 1, [], 0⟩ = (.short, ⟨1, 1, [], 0⟩) ∧ shortIsPrefix d.len ⟨1, 1, [], 0⟩ = true) ∧
    (decodeSym [] ⟨0, 0, [0xFF, 0xFF], 0⟩ = (.invalid, ⟨0xFFFF, 16, [], 2⟩) ∧
      decodeSym [] ⟨0, 0, [], 0⟩ = (.short, ⟨0, 0, [], 0⟩) ∧ shortIsPrefix [] ⟨0, 0, [], 0⟩ = false) := by
  unfold State.readerOk; decide

/-- A stored length and its complement, a wrong complement; a header of HLIT 257 with 4 code-length code lengths, and HLIT 287. -/
theorem wit_BlockHeaderSymbols :
    (let s := { withIn [5, 0, 0xFA, 0xFF] with br := ⟨0x7F, 7⟩ }
     s.infl.src = .input ∧ s.readerOk ∧ s.br.n ≤ 7 ∧
       (5 : Byte).toNat + 256 * (0 : Byte).toNat = 65535 - ((0xFA : Byte).toNat + 256 * (0xFF : Byte).toNat) ∧
       (5 : Byte).toNat + 256 * (0 : Byte).toNat ≠ 65535 - ((0xFB : Byte).toNat + 256 * (0xFF : Byte).toNat)) ∧
    (let s := withIn [0x1E, 0]
     s.infl.src = .input ∧ s.readerOk ∧ 14 ≤ bitsHeld s ∧ 286 < bitsAhead s % 32 + 257) ∧
    (let s := withIn [0, 0x40, 0x02, 0]
     s.readerOk ∧ 14 + 3 * (bitsAhead s / 1024 % 16 + 4) ≤ bitsHeld s ∧ bitsAhead s % 32 + 257 ≤ 286 ∧
       kraft (headerCllen (bitsAhead s) (bitsAhead s / 1024 % 16 + 4)) ≤ 32768) ∧
    (let s := inflAt .storedCopy .none [0x61]
     let s := { s with infl := { s.infl with storedRem := 1 } }
     s.infl.phase = .storedCopy ∧ s.infl.src = .input ∧ s.readerOk ∧ s.br.n % 8 = 0 ∧ s.infl.storedRem = 0 + 1 ∧
       8 ≤ bitsHeld s ∧ outRoom s 1 = 1) ∧
    (let s := inflAt .storedCopy .none []
     bitsHeld s < 8 ∧ s.inEnd = false ∧ { s with inEnd := true }.inEnd = true ∧ s.infl.storedRem = 0) := by
  unfold State.readerOk; decide

theorem wit_LiteralAndEndOfBlock :
    State.reset.infl.src = .input ∧ outRoom State.reset 1 = 1 ∧
    (let s := { State.reset with params := outCap 2, outq := [0] }
     s.infl.src = .input ∧ outRoom s 1 = 1) ∧
    (let s := { State.reset with params := outCap 1, outq := [0] }
     s.infl.src = .input ∧ outRoom s 1 = 0) ∧
    { Infl.reset with src := .entry 0 false [] }.src = .entry 0 false [] ∧
    { Infl.reset with src := .entry 0 true [] }.src = .entry 0 true [] ∧ Infl.reset.final = false ∧
    (let i := { Infl.reset with final := true }
     i.final = true ∧ i.nowrap = false) ∧
    (let i := { Infl.reset with final := true, nowrap := true }
     i.final = true ∧ i.nowrap = true) := by decide

theorem wit_LengthSymbolsGiveBasePlusExtra : State.reset.infl.src = .input := by decide

/-- A match of length 258 at distance 32768, all that was produced; one byte less is too far; and the greatest E. -/
theorem wit_DistanceSymbolsCopyByteByByte :
    (let s := inflAt .huffmanDecode (.dist 258) []
     CopyReady 32768 { s with infl := { s.infl with total := 32768 } }) ∧
    (let s := inflAt .huffmanDecode (.dist 258) []
     let s := { s with infl := { s.infl with total := 32767 } }
     s.infl.src = .input ∧ s.infl.total < 32768) ∧
    24577 + 8191 = 32768 ∧ 8191 < 8192 ∧ 1 < 2 := by unfold CopyReady; decide

/-- One short of full; exactly full; one past the end; nothing to repeat. -/
theorem wit_CodeLengthSymbolsExtendTheSequence :
    (let s := { State.reset with infl := { Infl.reset with hlit := 4, hdist := 1, lenseq := [1] } }
     s.infl.lenseq.getLast? = some 1 ∧ s.infl.lenseq.length + (List.replicate 3 0).length < s.infl.hlit + s.infl.hdist ∧
       s.infl.lenseq.length + (List.replicate 4 0).length = s.infl.hlit + s.infl.hdist ∧
       kraft ((s.infl.lenseq ++ List.replicate 4 0).take s.infl.hlit) ≤ 32768 ∧
       kraft (((s.infl.lenseq ++ List.replicate 4 0).take (s.infl.hlit + s.infl.hdist)).drop s.infl.hlit) ≤ 32768 ∧
       s.infl.src = .input ∧ s.infl.hlit + s.infl.hdist < s.infl.lenseq.length + 5) ∧
    State.reset.infl.lenseq = [] := by decide

/-- A good header at the greatest window; each check that fails, in order; a trailer that is equal and one that is not. -/
theorem wit_ZlibHeaderAndTrailerChecks :
    State.reset.infl.src = .input ∧
    (((8 + 16 * (7 : BitVec 4).toNat) * 256 + (0x9C : Byte).toNat) % 31 = 0 ∧ (7 : BitVec 4).toNat ≤ 7 ∧
      (0x9C : Byte).getLsbD 5 = false) ∧
    ((8 + 16 * (7 : BitVec 4).toNat) * 256 + (0x9D : Byte).toNat) % 31 ≠ 0 ∧
    (((8 + 16 * (8 : BitVec 4).toNat) * 256 + (0x1C : Byte).toNat) % 31 = 0 ∧ 7 < (8 : BitVec 4).toNat) ∧
    (((8 + 16 * (7 : BitVec 4).toNat) * 256 + (0xBB : Byte).toNat) % 31 = 0 ∧ (0xBB : Byte).getLsbD 5 = true) ∧
    (1 : Word) = State.reset.infl.adler ∧ (2 : Word) ≠ State.reset.infl.adler := by decide

theorem wit_ArchiveNewCloseAndInfo :
    ctrlLevel { State.reset with ctrl := 0x92 } ≤ 9 ∧ 9 < ctrlLevel { State.reset with ctrl := 0x94 } := by decide

/-- A new name, one that exists, an empty one; a directory; and the names' forms. -/
theorem wit_AddingAnEntry :
    (let s := { archive [] with inq := [0x61, 0x78], lat := ⟨1, 1, 0, 8⟩ }
     s.zip.isOpen = true ∧ s.lat.r0.toNat ≤ 65535 ∧ (s.lat.r3 = 0 ∨ s.lat.r3 = 8) ∧ overInCap s 2 = false ∧
       2 ≤ s.inq.length ∧ nameNorm s.params (s.inq.take 1) = some [0x61] ∧ hasName s.zip.entries [0x61] = false) ∧
    hasName (archive [entryA []]).zip.entries [0x61] = true ∧ nameNorm Params.default [] = none ∧
    (let s := { archive [] with inq := [0x64], lat := ⟨1, 0, 0, 0⟩ }
     s.zip.isOpen = true ∧ s.lat.r1 = 0 ∧ overInCap s 1 = false ∧ 1 ≤ s.inq.length ∧
       nameNorm s.params (s.inq.take 1) = some [0x64] ∧ hasName s.zip.entries [0x64, 0x2F] = false) ∧
    ([0x61] ≠ ([] : Bytes) ∧ (0x3A : Byte) ∉ ([0x61] : Bytes)) ∧ (0x3A : Byte) ∈ ([0x3A] : Bytes) ∧
    hasName [{ entryA [] with name := [0x64, 0x2F] }] [0x64, 0x2F] = true ∧
    65535 < (List.replicate 65535 (0x61 : Byte) ++ [0x2F]).length ∧ Params.default.hook = [] := by
  refine ⟨?_, ?_, ?_, ?_, ?_, ?_, ?_, ?_, ?_⟩
  all_goals first | (rw [List.length_append, List.length_replicate]; decide) | decide

theorem wit_ChangingAnEntry :
    (let s := { archive [entryA [1]] with inq := [2], lat := ⟨0, 1, 0, 0⟩ }
     s.zip.isOpen = true ∧ s.zip.entries[s.lat.r0.toNat]? = some (entryA [1]) ∧ overInCap s s.lat.r1.toNat = false ∧
       s.lat.r1.toNat ≤ s.inq.length ∧ s.infl.phase.active = false ∧ (entryA [1]).pcomp = false) ∧
    (withArgs 0 9 0 0).lat.r1.toNat ≤ 9 ∧ 9 < (withArgs 0 10 0 0).lat.r1.toNat ∧
    { entryA [1] with pcomp := true, level := 9 }.level = (withArgs 0 9 0 0).lat.r1.toNat := by decide

/-- The second of two names, and one that is missing; both selectors and the one above. -/
theorem wit_ReadingTheDirectory :
    (let e := entryA []
     let s := { archive [{ e with name := [0x62] }, e] with inq := [0x61], lat := ⟨1, 0, 0, 0⟩ }
     s.zip.isOpen = true ∧ s.lat.r0.toNat ≤ 65535 ∧ overInCap s 1 = false ∧ 1 ≤ s.inq.length ∧
       s.zip.entries[1]? = some e ∧ e.name = [0x61] ∧ s.zip.entries.map Entry.name = [[0x62], [0x61]]) ∧
    (∀ e ∈ (archive [entryA []]).zip.entries, e.name ≠ [0x62]) ∧
    (let s := archive [entryA []]
     s.zip.entries[s.lat.r0.toNat]? = some (entryA []) ∧ s.lat.r1 = 0 ∧ outRoom s 1 = 1) ∧
    (withArgs 0 1 0 0).lat.r1 = 1 ∧ 1 < (withArgs 0 2 0 0).lat.r1.toNat := by decide

/-- Plain data; a stream of nothing whose CRC is 0, and one whose CRC is not. -/
theorem wit_ReadingAnEntrysData :
    (let s := archive [entryA [1]]
     s.zip.isOpen = true ∧ s.infl.phase.active = false ∧ outRoom s 1 = 1 ∧
       s.zip.entries[s.lat.r0.toNat]? = some (entryA [1]) ∧ (entryA [1]).pcomp = false) ∧
    (let e := { entryA [0x03, 0x00] with pcomp := true }
     e.payload = [0x03, 0x00] ∧ e.crc = 0 ∧ (after (exec .zipItemData (archive [e]))).zip.entries = [entryA []]) ∧
    (let e := { entryA [0x03, 0x00] with pcomp := true, crc := 1 }
     ctrlCrcCheck (archive [e]) = true ∧ e.crc ≠ 0 ∧ (after (exec .zipItemData (archive [e]))).errCode = 0x221) ∧
    ctrlCrcCheck { State.reset with ctrl := 0x0C } = false := by decide

theorem wit_OpeningAndSavingAnArchive :
    (let s := { withIn (endRecord 0 0 0) with inEnd := true }
     ctrlLevel s ≤ 9 ∧ s.inEnd = true ∧ s.inq = endRecord 0 0 0 ∧ (after (exec .zipOpen s)).zip.isOpen = true) ∧
    (ctrlLevel State.reset ≤ 9 ∧ State.reset.inEnd = false) ∧
    (let s := archive []
     s.zip.isOpen = true ∧ s.defl.phase.active = false ∧ s.infl.phase.active = false ∧ outRoom s 22 = 22 ∧
       s.zip.entries = []) ∧
    (let e := entryA [1]
     (archive [e]).zip.entries = [e] ∧ e.pcomp = false ∧ e.method = 0 ∧ e.name.length ≤ 65535 ∧
       e.payload.length ≤ 65535) := by decide

/-- The end record, a directory record and a local header where the parse stands. -/
theorem wit_ArchiveRecordsAsTheyAreParsed :
    (let s := State.reset.withFetchWord 32 0x06054B50
     let img := s.zip.source
     s.zip.cont = .eocd 0 ∧ rdLE img 4 2 = 0 ∧ rdLE img 6 2 = 0 ∧ rdLE img 8 2 = rdLE img 10 2 ∧
       rdLE img 16 4 + rdLE img 12 4 ≤ 0) ∧
    rdLE [0, 0, 0, 0, 1] 4 2 ≠ 0 ∧ 0 < rdLE ((le32 0x06054B50 ++ zeros 8) ++ [1]) 12 4 ∧
    (rdLE (zeros 8 ++ [1]) 8 2 % 2 = 1 ∧ rdLE (zeros 10 ++ [9]) 10 2 ≠ 0 ∧ rdLE (zeros 10 ++ [9]) 10 2 ≠ 8) ∧
    ((zeros 46).length < 46 + rdLE (zeros 28 ++ [1]) 28 2 ∧ (zeros 45).length < 46) ∧
    ((zeros 30).length < 30 + 1 ∧ (zeros 29).length < 30 ∧ (zeros 27).length < 28) ∧
    ((zeros 3).length < 4 ∧ 4 ≤ (zeros 4).length ∧ rdLE (zeros 4) 0 4 ≠ 0x02014B50 ∧ rdLE (zeros 4) 0 4 ≠ 0x04034B50) ∧
    (let s := State.reset.withFetchWord 32 0x02014B50
     let img := s.zip.source
     s.zip.cont = .dir 30 1 ∧ 30 + 46 + rdLE img (30 + 28) 2 ≤ img.length ∧ rdLE img (30 + 8) 2 % 2 = 0 ∧
       rdLE img (30 + 10) 2 = 0) ∧
    (let s := State.reset.withFetchWord 32 0x04034B50
     let img := s.zip.source
     s.zip.cont = .loc 30 76 0 0 0 { entryA [] with name := [], level := 0 } ∧ 30 ≤ img.length ∧
       30 + rdLE img 26 2 + rdLE img 28 2 + 0 ≤ img.length ∧ hasName s.zip.list [] = false) ∧
    hasName [entryA []] [0x61] = true := by decide

/-- A command of each range refused, first and last opcode, and an item index at the number of entries. -/
theorem wit_BusyUnitsAndClosedArchivesRefuse :
    ([Instr.hencReset 3, .hencQuery 0 0, .bwWriteBits 0 0, .bwStatus, .lzReset, .lzAdvance, .zipSave, .hdecBuild 3,
      .hdecDecode 0, .brPeek 17, .brAvail, .zipItemData, .zipSetItemLevel, .zipAddItem].map
        (fun i => (encode i).2 % 256))
      = [0x30, 0x36, 0x50, 0x59, 0x70, 0x73, 0xAC, 0x40, 0x42, 0x60, 0x68, 0xA8, 0xAB, 0xA2] ∧
    (encode .zipSave).1 = .cmd ∧ { Defl.reset with phase := .filling }.phase.active = true ∧
    { Infl.reset with phase := .header }.phase.active = true ∧ (archive []).zip.isOpen = true ∧
    State.reset.zip.isOpen = false ∧ (archive []).infl.phase.active = false ∧
    (archive []).zip.entries.length ≤ (archive []).lat.r0.toNat := by decide

/-- A copy in a running decompressor: a state every invariant below holds in, whose step runs. -/
def running : State :=
  let s := inflAt .huffmanDecode (.dist 3) [0x00]
  { s with infl := { s.infl with owin := [(0, 0x61)], owpos := 1, total := 1 } }

theorem running_steps : step running = .next (after (step running)) := next_of_ran (by decide)

theorem wit_EveryStepKeepsMemoryCanonical : running.memOk ∧ step running = .next (after (step running)) :=
  ⟨by unfold State.memOk; decide, running_steps⟩

theorem wit_EveryStepKeepsTheReaderBounded : running.readerOk ∧ step running = .next (after (step running)) :=
  ⟨by unfold State.readerOk; decide, running_steps⟩

theorem wit_EveryStepKeepsBuffersWithinCapacity : running.buffersOk ∧ step running = .next (after (step running)) :=
  ⟨⟨by decide, by decide, trivial, rfl⟩, running_steps⟩

theorem wit_IdleMeansNoHoldAndNoWork : running.idleOk ∧ step running = .next (after (step running)) :=
  ⟨fun h => absurd h (by decide), running_steps⟩

theorem wit_EntryNamesStayDistinct :
    (let s := { archive [entryA []] with host := [.write 0x04 4 0xAD] }
     s.namesOk ∧ step s = .next (after (step s))) :=
  ⟨by unfold State.namesOk; decide, next_of_ran (by decide)⟩

end Sys2Proof.Tests
end

section
/-! PROOFS. BW_N, PENDING, OUT and IN stay within their bounds (10_state.md R85, R95, 00_scope.md R16): what each shared operation
keeps, then the decompressor, the ZIP container and the compressor, then the commands and the step. -/

namespace Sys2Proof.Machine

/-! ## The four bounds under the updates that touch them -/

theorem overInCap_mono {s : State} {m n : Nat} (hmn : m ≤ n) (h : overInCap s n = false) : overInCap s m = false := by
  unfold overInCap at h ⊢
  split
  · rfl
  · simp_all; omega

/-- IN may shrink. -/
theorem buffersOk_inq {s : State} {bs : Bytes} (hl : bs.length ≤ s.inq.length) (h : s.buffersOk) :
    State.buffersOk { s with inq := bs } := by
  obtain ⟨hn, hp, ho, hi⟩ := h
  exact ⟨hn, hp, ho, overInCap_mono hl hi⟩

theorem buffersOk_drop (k : Nat) {s : State} (h : s.buffersOk) : State.buffersOk { s with inq := s.inq.drop k } :=
  buffersOk_inq (by simp) h

/-- OUT may shrink. -/
theorem buffersOk_outq {s : State} {bs : Bytes} (hl : bs.length ≤ s.outq.length) (h : s.buffersOk) :
    State.buffersOk { s with outq := bs } := by
  obtain ⟨hn, hp, ho, hi⟩ := h
  refine ⟨hn, hp, ?_, hi⟩
  simp only [State.outOk] at ho ⊢
  split <;> simp_all
  omega

/-- OUT takes what it has room for. -/
theorem outOk_append {s : State} (h : s.outOk) (bs : Bytes) {n : Nat} :
    State.outOk { s with outq := s.outq ++ bs.take (outRoom s n) } := by
  simp only [State.outOk, outRoom] at h ⊢
  split <;> simp_all
  omega

theorem buffersOk_bw {b : Bw} (hn : b.n ≤ 7) (hp : b.pending.length ≤ Config.pendingCap) {s : State} (h : s.buffersOk) :
    State.buffersOk { s with bw := b } := by
  obtain ⟨-, -, ho, hi⟩ := h
  exact ⟨hn, hp, ho, hi⟩

/-- The four buffers of a reset block, under any parameters. -/
theorem buffersOk_hardReset (s : State) : (hardReset s).buffersOk := by
  refine ⟨Nat.zero_le 7, Nat.zero_le _, ?_, ?_⟩
  · simp only [State.outOk, hardReset, State.reset]
    split <;> simp
  · simp only [State.inOk, overInCap, hardReset, State.reset]
    split <;> simp

theorem buffersOk_softReset {s : State} (h : s.buffersOk) : (softReset s).buffersOk :=
  buffersOk_bw (b := Bw.reset) (by decide) (by decide) h

/-- The report and the frame of a command touch none of the four. -/
theorem buffersOk_frame : FrameStable State.buffersOk where
  complete _ h := h
  begun _ h := h
  hold _ _ h := h
  raise _ _ _ h := h

/-! ## The writer and OUT -/

theorem outPush_buffersOk (bs : Bytes) {s : State} (h : s.buffersOk) : (outPush bs s).All State.buffersOk := by
  obtain ⟨hn, hp, ho, hi⟩ := h
  have key : State.buffersOk { s with outq := s.outq ++ bs.take (outRoom s bs.length) } :=
    ⟨hn, hp, outOk_append ho bs, hi⟩
  simp only [outPush]
  split <;> exact key

theorem writeOps_buffersOk (d : Dest) (ops : List WOp) {s : State} (h : s.buffersOk) : (writeOps d ops s).buffersOk := by
  obtain ⟨hn, hp, ho, hi⟩ := h
  exact ⟨packOps_n ops hn, hp, ho, hi⟩

theorem runPend_buffersOk (d : Dest) (bs : Bytes) {s : State} (h : s.buffersOk) : (runPend d bs s).All State.buffersOk := by
  obtain ⟨hn, hp, ho, hi⟩ := h
  have key : ∀ ws : Bytes, ws.length ≤ Config.pendingCap - s.bw.pending.length →
      State.buffersOk { s with bw := { s.bw with pending := s.bw.pending ++ ws } } := fun ws hw =>
    ⟨hn, by simp only [List.length_append]; omega, ho, hi⟩
  simp only [runPend]
  split
  · exact key bs ‹_›
  · split
    · exact key _ (by simp)
    · exact ⟨hn, hp, ho, hi⟩

theorem runFlush_buffersOk (d : Dest) {s : State} (h : s.buffersOk) : (runFlush d s).All State.buffersOk := by
  obtain ⟨hn, hp, ho, hi⟩ := h
  have key : ∀ (k n : Nat), k = outRoom s n → State.buffersOk { s with
      outq := s.outq ++ s.bw.pending.take k, bw := { s.bw with pending := s.bw.pending.drop k } } := by
    rintro k n rfl
    exact ⟨hn, by simp only [List.length_drop]; omega, outOk_append ho _, hi⟩
  cases d with
  | packed => exact ⟨hn, Nat.zero_le _, ho, hi⟩
  | host => simp only [runFlush]; split <;> exact key _ _ rfl
  | stream => simp only [runFlush]; split <;> exact key _ _ rfl

/-! ## The reader -/

theorem refillLoop_bytes_le (l : Nat) (acc : Word) (n pops : Nat) (bs : Bytes) :
    (refillLoop l acc n pops bs).bytes.length ≤ bs.length := by
  induction bs generalizing acc n pops with
  | nil => exact Nat.le_refl _
  | cons b bs ih =>
    simp only [refillLoop]
    split
    · exact Nat.le_succ_of_le (ih _ _ _)
    · exact Nat.le_refl _

theorem refill_bytes_le (l : Nat) (b : BitSrc) : (b.refill l).bytes.length ≤ b.bytes.length := refillLoop_bytes_le _ _ _ _ _

theorem decodeLoop_bytes_le (len code ls : List Nat) (b : BitSrc) :
    (decodeLoop len code ls b).2.bytes.length ≤ b.bytes.length := by
  induction ls generalizing b with
  | nil => exact Nat.le_refl _
  | cons l ls ih =>
    have hr := refill_bytes_le l b
    simp only [decodeLoop]
    split
    · exact hr
    · split
      · exact hr
      · exact (ih _).trans hr

theorem decodeSym_bytes_le (len : List Nat) (b : BitSrc) : (decodeSym len b).2.bytes.length ≤ b.bytes.length :=
  decodeLoop_bytes_le _ _ _ _

theorem brPut_buffersOk {s : State} {b : BitSrc} (hb : b.bytes.length ≤ s.inq.length) (h : s.buffersOk) :
    (brPut s b).buffersOk := buffersOk_inq hb h

theorem refillNow_buffersOk (n : Nat) {s : State} (h : s.buffersOk) : (refillNow n s).buffersOk :=
  brPut_buffersOk (refill_bytes_le n (brSrc s)) h

theorem brDrop_buffersOk (n : Nat) {s : State} (h : s.buffersOk) : (brDrop n s).buffersOk :=
  brPut_buffersOk (Nat.le_refl _) h

theorem brRead16_buffersOk (opc : Nat) {f : Nat → State → Res}
    (hf : ∀ v s, State.buffersOk s → (f v s).All State.buffersOk) {s : State} (h : s.buffersOk) :
    (brRead16 opc s f).All State.buffersOk :=
  guardErr_all (refillNow_buffersOk 16 h) (hf _ _ (brDrop_buffersOk 16 (refillNow_buffersOk 16 h)))

theorem brRead32_buffersOk (opc : Nat) {f : Nat → Nat → State → Res}
    (hf : ∀ v w s, State.buffersOk s → (f v w s).All State.buffersOk) {s : State} (h : s.buffersOk) :
    (brRead32 opc s f).All State.buffersOk :=
  guardErr_all h (brRead16_buffersOk opc (fun _ _ => brRead16_buffersOk opc fun _ _ => hf _ _ _) h)

/-! ## The decompressor -/

/-- A property of the state in every ending of a read. -/
inductive Got.All (P : State → Prop) : Got → Prop
  | val {v : Nat} {s : State} (h : P s) : Got.All P (.val v s)
  | stop {r : Res} (h : r.All P) : Got.All P (.stop r)

/-- A property of the state in every answer at a cursor. -/
inductive Fetch.All (P : State → Prop) : Fetch → Prop
  | word {f : Fmt} {w : Nat} {s : State} (h : P s) : Fetch.All P (.word f w s)
  | other {r : Res} (h : r.All P) : Fetch.All P (.other r)
  | finished : Fetch.All P .finished

theorem Got.bind_all {P : State → Prop} {g : Got} {f : Nat → State → Res} (hg : g.All P)
    (hf : ∀ v s, P s → (f v s).All P) : (g.bind f).All P := by
  cases hg with
  | val h => exact hf _ _ h
  | stop h => exact h

theorem Got.fetch_all {P : State → Prop} {g : Got} {f : Nat → State → Fetch} (hg : g.All P)
    (hf : ∀ v s, P s → (f v s).All P) : (g.fetch f).All P := by
  cases hg with
  | val h => exact hf _ _ h
  | stop h => exact .other h

theorem inflPut_buffersOk {s : State} {b : BitSrc} (hb : b.bytes.length ≤ (inflSrc s).bytes.length)
    (h : s.buffersOk) :
    (inflPut s b).buffersOk := by
  unfold inflSrc at hb
  unfold inflPut
  cases hs : s.infl.src <;> simp only [hs] at hb ⊢
  · exact buffersOk_inq hb h
  · exact h

theorem failInfl_buffersOk (e : Err) {s : State} (h : s.buffersOk) : (failInfl e s).All State.buffersOk := by
  unfold failInfl
  split <;> exact h

theorem readBits_buffersOk (n : Nat) {s : State} (h : s.buffersOk) : (readBits n s).All State.buffersOk := by
  have hb := refill_bytes_le n (inflSrc s)
  simp only [readBits]
  split
  · refine .stop ?_
    split
    · exact inflPut_buffersOk hb h
    · exact failInfl_buffersOk _ (inflPut_buffersOk hb h)
  · exact .val (inflPut_buffersOk (b := BitSrc.drop _ _) hb h)

theorem readByte_buffersOk {s : State} (h : s.buffersOk) : (readByte s).All State.buffersOk := by
  unfold readByte
  split
  · exact .stop (failInfl_buffersOk _ h)
  · exact readBits_buffersOk 8 h

theorem readSym_buffersOk (d : DTable) {s : State} (h : s.buffersOk) : (readSym d s).All State.buffersOk := by
  have hput := inflPut_buffersOk (decodeSym_bytes_le d.len (inflSrc s)) h
  unfold readSym
  split <;> rename_i hd <;> rw [hd] at hput
  · exact .val hput
  · exact .stop (failInfl_buffersOk _ hput)
  · refine .stop ?_
    split
    · exact hput
    · exact failInfl_buffersOk _ hput

theorem inflAlign_buffersOk {s : State} (h : s.buffersOk) : (inflAlign s).buffersOk := inflPut_buffersOk (Nat.le_refl _) h

theorem output_buffersOk (b : Byte) {s : State} (h : s.buffersOk) : (output b s).All State.buffersOk := by
  simp only [output]
  split
  · exact outPush_buffersOk [b] h
  · split
    · exact outPush_buffersOk [b] h
    · exact h

theorem setTable_buffersOk (t : Sel) (d : DTable) {s : State} (h : s.buffersOk) : (setTable s t d).buffersOk := by
  cases t <;> exact h

theorem storedHeader_buffersOk (k : Nat) (bs : Bytes) {s : State} (h : s.buffersOk) :
    (storedHeader k bs s).All State.buffersOk := by
  induction k generalizing bs s with
  | zero =>
    simp only [storedHeader]
    split
    · exact failInfl_buffersOk _ h
    · exact h
  | succ k ih => exact Got.bind_all (readByte_buffersOk h) fun v s hs => ih _ hs

theorem inflBuild_buffersOk (t : Sel) (len : List Nat) {f : State → Res}
    (hf : ∀ s, State.buffersOk s → (f s).All State.buffersOk) {s : State} (h : s.buffersOk) :
    (inflBuild t len s f).All State.buffersOk := by
  unfold inflBuild
  split
  · exact failInfl_buffersOk _ (setTable_buffersOk _ _ h)
  · exact hf _ (setTable_buffersOk _ _ h)

theorem readCllen_buffersOk (k i : Nat) {s : State} (h : s.buffersOk) : (readCllen k i s).All State.buffersOk := by
  induction k generalizing i s with
  | zero =>
    refine inflBuild_buffersOk _ _ (fun _ hs => ?_) h
    exact hs
  | succ k ih => exact Got.bind_all (readBits_buffersOk 3 h) fun v s hs => ih _ hs

theorem readHclen_buffersOk {s : State} (h : s.buffersOk) : (readHclen s).All State.buffersOk :=
  Got.bind_all (readBits_buffersOk 4 h) fun v s hs => by
    simp only
    split
    · exact failInfl_buffersOk _ hs
    · exact readCllen_buffersOk _ _ hs

theorem readHdist_buffersOk {s : State} (h : s.buffersOk) : (readHdist s).All State.buffersOk :=
  Got.bind_all (readBits_buffersOk 5 h) fun _ _ hs => readHclen_buffersOk hs

theorem readHlit_buffersOk {s : State} (h : s.buffersOk) : (readHlit s).All State.buffersOk :=
  Got.bind_all (readBits_buffersOk 5 h) fun _ _ hs => readHdist_buffersOk hs

theorem appendLens_buffersOk (v r : Nat) {s : State} (h : s.buffersOk) : (appendLens v r s).All State.buffersOk := by
  simp only [appendLens, lensAppended]
  split
  · exact h
  · refine inflBuild_buffersOk _ _ (fun _ h0 => inflBuild_buffersOk _ _ (fun _ h1 => ?_) h0) h
    exact h1

theorem repeatLens_buffersOk (v r : Nat) {s : State} (h : s.buffersOk) : (repeatLens v r s).All State.buffersOk := by
  unfold repeatLens
  split
  · exact failInfl_buffersOk _ h
  · exact appendLens_buffersOk v r h

theorem wireClPrev_buffersOk (e : Nat) {s : State} (h : s.buffersOk) : (wireClPrev e s).All State.buffersOk := by
  unfold wireClPrev
  split
  · exact failInfl_buffersOk _ h
  · exact repeatLens_buffersOk _ _ h

theorem copyLoop_buffersOk (r d : Nat) {s : State} (h : s.buffersOk) : (copyLoop r d s).All State.buffersOk := by
  induction r generalizing s with
  | zero => exact h
  | succ r ih => exact all_andThen (P := State.buffersOk) (fun _ h => h) (output_buffersOk _ h) fun _ hs => ih hs

theorem wireDist_buffersOk (c e : Nat) {s : State} (h : s.buffersOk) : (wireDist c e s).All State.buffersOk := by
  simp only [wireDist]
  split
  · exact failInfl_buffersOk _ h
  · exact copyLoop_buffersOk _ _ h

theorem wireZlibHeader_buffersOk (c : BitVec 4) (f : Byte) {s : State} (h : s.buffersOk) :
    (wireZlibHeader c f s).All State.buffersOk := by
  unfold wireZlibHeader
  split_ifs
  case neg => exact h
  all_goals exact failInfl_buffersOk _ h

theorem wireZlibTrailer_buffersOk (t : Word) {s : State} (h : s.buffersOk) : (wireZlibTrailer t s).All State.buffersOk := by
  simp only [wireZlibTrailer]
  split
  · exact failInfl_buffersOk _ h
  · exact h

/-! ### The cursor -/

theorem fetchFlg_buffersOk (c : Nat) {s : State} (h : s.buffersOk) : (fetchFlg c s).All State.buffersOk :=
  Got.fetch_all (readBits_buffersOk 8 h) fun _ _ hs => .word hs

theorem fetchBtype_buffersOk {s : State} (h : s.buffersOk) : (fetchBtype s).All State.buffersOk :=
  Got.fetch_all (readBits_buffersOk 2 h) fun _ _ hs => .word hs

theorem fetchClExtra_buffersOk (k : Nat) {s : State} (h : s.buffersOk) : (fetchClExtra k s).All State.buffersOk :=
  Got.fetch_all (readBits_buffersOk _ h) fun _ _ hs => .word hs

theorem fetchClen_buffersOk {s : State} (h : s.buffersOk) : (fetchClen s).All State.buffersOk :=
  Got.fetch_all (readSym_buffersOk _ h) fun k s hs => by
    split_ifs
    · exact .other (failInfl_buffersOk _ hs)
    · exact .word hs
    · exact fetchClExtra_buffersOk k hs

theorem fetchLenExtra_buffersOk (k : Nat) {s : State} (h : s.buffersOk) : (fetchLenExtra k s).All State.buffersOk :=
  Got.fetch_all (readBits_buffersOk _ h) fun _ _ hs => .word hs

theorem fetchLitlen_buffersOk {s : State} (h : s.buffersOk) : (fetchLitlen s).All State.buffersOk :=
  Got.fetch_all (readSym_buffersOk _ h) fun k s hs => by
    split
    · exact fetchLenExtra_buffersOk k hs
    · exact .word hs

theorem fetchDistExtra_buffersOk (e : Nat) {s : State} (h : s.buffersOk) : (fetchDistExtra e s).All State.buffersOk :=
  Got.fetch_all (readBits_buffersOk _ h) fun _ _ hs => .word hs

theorem fetchDist_buffersOk (l : Nat) {s : State} (h : s.buffersOk) : (fetchDist l s).All State.buffersOk :=
  Got.fetch_all (readSym_buffersOk _ h) fun k s hs => by
    split
    · exact fetchDistExtra_buffersOk k hs
    · exact .word hs

theorem fetchTrailer_buffersOk (k : Nat) (bs : Bytes) {s : State} (h : s.buffersOk) :
    (fetchTrailer k bs s).All State.buffersOk := by
  induction k generalizing bs s with
  | zero => exact .word h
  | succ k ih => exact Got.fetch_all (readByte_buffersOk h) fun _ _ hs => ih _ hs

theorem storedByte_buffersOk {s : State} (h : s.buffersOk) : (storedByte s).All State.buffersOk := by
  unfold storedByte
  split
  · exact h
  · exact Got.bind_all (readByte_buffersOk h) fun _ _ hs => output_buffersOk _ hs

theorem fetchHeader_buffersOk {s : State} (h : s.buffersOk) : (fetchHeader s).All State.buffersOk := by
  unfold fetchHeader
  split
  · exact fetchBtype_buffersOk h
  · exact .other (storedHeader_buffersOk _ _ h)
  · exact .other (readHlit_buffersOk h)
  · exact .other (readHdist_buffersOk h)
  · exact .other (readHclen_buffersOk h)
  · exact .other (readCllen_buffersOk _ _ h)
  · exact fetchClen_buffersOk h
  · exact fetchClExtra_buffersOk _ h
  · exact Got.fetch_all (readBits_buffersOk 1 h) fun _ _ hs => fetchBtype_buffersOk hs

theorem fetchHuffman_buffersOk {s : State} (h : s.buffersOk) : (fetchHuffman s).All State.buffersOk := by
  unfold fetchHuffman
  split
  · exact fetchLenExtra_buffersOk _ h
  · exact fetchDist_buffersOk _ h
  · exact fetchDistExtra_buffersOk _ h
  · exact .other (copyLoop_buffersOk _ _ h)
  · exact fetchLitlen_buffersOk h

theorem inflFetch_buffersOk {s : State} (h : s.buffersOk) : (inflFetch s).All State.buffersOk := by
  unfold inflFetch
  split
  · split
    · exact fetchFlg_buffersOk _ h
    · exact Got.fetch_all (readBits_buffersOk 8 h) fun _ _ hs => fetchFlg_buffersOk _ hs
  · exact fetchHeader_buffersOk h
  · exact .other (storedByte_buffersOk h)
  · exact fetchHuffman_buffersOk h
  · split
    · exact fetchTrailer_buffersOk _ _ h
    · exact fetchTrailer_buffersOk _ _ (inflAlign_buffersOk h)
  all_goals exact .finished

theorem badWord_buffersOk (w : Nat) (e : DecodeError) {s : State} (h : s.buffersOk) : (badWord w e s).All State.buffersOk := by
  unfold badWord
  split
  · split <;> exact failInfl_buffersOk _ h
  · exact failInfl_buffersOk _ h

/-! ## The ZIP container -/

theorem wireEnd_buffersOk {s : State} (h : s.buffersOk) : (wireEnd s).All State.buffersOk := by
  unfold wireEnd
  split
  · simp only
    split_ifs <;> exact h
  · exact h

theorem wireCentral_buffersOk {s : State} (h : s.buffersOk) : (wireCentral s).All State.buffersOk := by
  unfold wireCentral
  split
  · simp only
    split
    · exact h
    · split_ifs <;> exact h
  · exact h

theorem wireLocal_buffersOk {s : State} (h : s.buffersOk) : (wireLocal s).All State.buffersOk := by
  unfold wireLocal
  split
  · simp only
    split
    · exact h
    · split_ifs <;> exact h
  · exact h

theorem zipFetch_buffersOk {s : State} (h : s.buffersOk) : (zipFetch s).All State.buffersOk := by
  have hr : ∀ f o, (fetchRecord f o s).All State.buffersOk := fun f o => by
    unfold fetchRecord
    split
    · exact .other h
    · exact .word h
  unfold zipFetch
  split
  case h_2 =>
    split
    · exact .other h
    · exact .other h
  case h_1 | h_4 => exact .finished
  all_goals exact hr _ _

theorem badRecord_buffersOk {s : State} (h : s.buffersOk) : (badRecord s).All State.buffersOk := by
  unfold badRecord
  split <;> exact h

theorem endItem_buffersOk (i : Nat) (e : Entry) {f : Entry → Word → State → Res}
    (hf : ∀ e c s, State.buffersOk s → (f e c s).All State.buffersOk) {s : State} (h : s.buffersOk) :
    (endItem i e s f).All State.buffersOk := by
  simp only [endItem]
  split
  · exact h
  · exact hf _ _ _ h

theorem runItemData_buffersOk (i : Nat) {s : State} (h : s.buffersOk) : (runItemData i s).All State.buffersOk := by
  unfold runItemData
  split
  · exact h
  · refine endItem_buffersOk _ _ (fun _ _ _ hs => ?_) h
    exact hs

theorem runSetLevel_buffersOk (i lv : Nat) {s : State} (h : s.buffersOk) : (runSetLevel i lv s).All State.buffersOk := by
  unfold runSetLevel
  split
  · exact h
  · refine endItem_buffersOk _ _ (fun _ _ _ hs => ?_) h
    exact hs

theorem writeLocal_buffersOk (m : Nat) (p : Bytes) (e : Entry) (rest : List Entry) {s : State} (h : s.buffersOk) :
    (writeLocal m p e rest s).All State.buffersOk := by
  simp only [writeLocal]
  split <;> exact h

/-- The writer of a reset compressor holds a zlib header of two bytes or nothing. -/
theorem deflReset_buffersOk (p : DeflParams) {s : State} (h : s.buffersOk) : (deflReset p s).buffersOk := by
  have hh : (if p.nowrap then [] else zlibHeaderBytes p.level).length ≤ Config.pendingCap := by
    unfold zlibHeaderBytes
    split_ifs <;> decide
  obtain ⟨-, -, ho, hi⟩ := h
  exact ⟨Nat.zero_le 7, hh, ho, hi⟩

theorem startLocal_buffersOk (e : Entry) (rest : List Entry) {s : State} (h : s.buffersOk) :
    (startLocal e rest s).All State.buffersOk := by
  simp only [startLocal]
  split_ifs
  · exact h
  · exact deflReset_buffersOk (mkParams e.level 0 true) (s := s) h
  · exact writeLocal_buffersOk _ _ _ _ h

theorem runSaveItem_buffersOk {s : State} (h : s.buffersOk) : (runSaveItem s).All State.buffersOk := by
  unfold runSaveItem
  split
  · simp only [endSave]
    split <;> exact h
  · split
    · exact h
    · exact startLocal_buffersOk _ _ h

theorem runSaveDecoded_buffersOk {s : State} (h : s.buffersOk) : (runSaveDecoded s).All State.buffersOk := by
  unfold runSaveDecoded
  split
  · exact h
  · exact endItem_buffersOk _ _ (fun _ _ _ => startLocal_buffersOk _ _) h

theorem runSaveLocal_buffersOk (m : Nat) {s : State} (h : s.buffersOk) : (runSaveLocal m s).All State.buffersOk := by
  unfold runSaveLocal
  split
  · exact h
  · exact writeLocal_buffersOk _ _ _ _ h

/-! ## The compressor -/

theorem emitHeld_frame (s : State) : ∃ z d, emitHeld s = { s with lz := z, defl := d } := by
  unfold emitHeld
  split <;> exact ⟨_, _, rfl⟩

/-- A step of the compressor writes the window with its chains and the compressor, nothing else. -/
theorem deflStep_frame (s : State) : ∃ z d, deflStep s = { s with lz := z, defl := d } := by
  unfold deflStep
  split
  · obtain ⟨z, d, hh⟩ := emitHeld_frame s
    simp only [stepChosen, hh]
    split
    · exact ⟨_, _, rfl⟩
    · split <;> exact ⟨_, _, rfl⟩
  · unfold referenceStep
    split
    · exact ⟨_, _, rfl⟩
    · simp only [stepFast]
      split_ifs <;> exact ⟨_, _, rfl⟩
    · simp only [stepLazy]
      split_ifs <;> exact ⟨_, _, rfl⟩

theorem emitHeld_buffersOk {s : State} (h : s.buffersOk) : (emitHeld s).buffersOk := by
  obtain ⟨z, d, hs⟩ := emitHeld_frame s
  rw [hs]
  exact h

theorem deflStep_buffersOk {s : State} (h : s.buffersOk) : (deflStep s).buffersOk := by
  obtain ⟨z, d, hs⟩ := deflStep_frame s
  rw [hs]
  exact h

theorem runDefl_buffersOk {s : State} (h : s.buffersOk) : (runDefl s).All State.buffersOk := by
  unfold runDefl
  split <;> exact h

theorem runDeflGo_buffersOk {s : State} (h : s.buffersOk) : (runDeflGo s).All State.buffersOk := by
  simp only [runDeflGo]
  split_ifs
  · exact h
  · exact emitHeld_buffersOk (s := { s with lz := _, defl := _ }) h
  all_goals exact deflStep_buffersOk (s := { s with lz := _, defl := _ }) h

theorem failDefl_buffersOk (e : Err) {s : State} (h : s.buffersOk) : (failDefl e s).All State.buffersOk := by
  simp only [failDefl]
  split <;> exact h

theorem runFlushBlock_buffersOk (final : Bool) {s : State} (h : s.buffersOk) :
    (runFlushBlock final s).All State.buffersOk := by
  unfold runFlushBlock
  split
  · obtain ⟨a, b, c, hf⟩ := failedTrees_frame s
    rw [hf]
    exact failDefl_buffersOk _ h
  · exact writeOps_buffersOk _ _ h

theorem runCompress_buffersOk {s : State} (h : s.buffersOk) : (runCompress s).All State.buffersOk := by
  unfold runCompress
  split
  · exact buffersOk_inq (Nat.zero_le _) h
  · split <;> exact h

/-! ## Wire symbols -/

/-- The forms of a wire symbol's effect (30_encoding.md R150-R177), whatever its operands; a command word has none (log 21). -/
inductive WireForm (s : State) : Res → Prop
  | stored (fin : Bool) : WireForm s (wireStored fin s)
  | fixed (fin : Bool) : WireForm s (wireFixed fin s)
  | dynamic (fin : Bool) : WireForm s (wireDynamic fin s)
  | reserved (fin : Bool) : WireForm s (wireReserved fin s)
  | lit (b : Byte) : WireForm s (wireLit b s)
  | eob : WireForm s (wireEob s)
  | len (c e : Nat) : WireForm s (wireLen c e s)
  | litlenReserved : WireForm s (wireLitlenReserved s)
  | dist (c e : Nat) : WireForm s (wireDist c e s)
  | distReserved : WireForm s (wireDistReserved s)
  | clLen (v : Nat) : WireForm s (wireClLen v s)
  | clPrev (e : Nat) : WireForm s (wireClPrev e s)
  | clZero (base e : Nat) : WireForm s (wireClZero base e s)
  | zlibHeader (c : BitVec 4) (f : Byte) : WireForm s (wireZlibHeader c f s)
  | zlibTrailer (t : Word) : WireForm s (wireZlibTrailer t s)
  | zipLocal : WireForm s (wireLocal s)
  | zipCentral : WireForm s (wireCentral s)
  | zipEnd : WireForm s (wireEnd s)
  | command : WireForm s (.ok s)

theorem wire_form (i : Instr) (s : State) : WireForm s (wire i s) := by
  cases i
  case blockStored => exact .stored _
  case blockFixed => exact .fixed _
  case blockDynamic => exact .dynamic _
  case blockReserved => exact .reserved _
  case lit => exact .lit _
  case eob => exact .eob
  case litlenReserved => exact .litlenReserved
  case distReserved => exact .distReserved
  case clLen => exact .clLen _
  case clRepeatPrev => exact .clPrev _
  case clZeroShort | clZeroLong => exact .clZero _ _
  case zlibHeader => exact .zlibHeader _ _
  case zlibTrailer => exact .zlibTrailer _
  case zipLocalHeader => exact .zipLocal
  case zipCentralRecord => exact .zipCentral
  case zipEndRecord => exact .zipEnd
  case len257 | len258 | len259 | len260 | len261 | len262 | len263 | len264 | len265 | len266 | len267 | len268 | len269
      | len270 | len271 | len272 | len273 | len274 | len275 | len276 | len277 | len278 | len279 | len280 | len281 | len282
      | len283 | len284 | len285 => exact .len _ _
  case dist0 | dist1 | dist2 | dist3 | dist4 | dist5 | dist6 | dist7 | dist8 | dist9 | dist10 | dist11 | dist12 | dist13
      | dist14 | dist15 | dist16 | dist17 | dist18 | dist19 | dist20 | dist21 | dist22 | dist23 | dist24 | dist25 | dist26
      | dist27 | dist28 | dist29 => exact .dist _ _
  all_goals exact .command

theorem wire_buffersOk (i : Instr) {s : State} (h : s.buffersOk) : (wire i s).All State.buffersOk := by
  have hw := wire_form i s
  generalize wire i s = r at hw ⊢
  cases hw with
  | stored fin => exact storedHeader_buffersOk _ _ (inflAlign_buffersOk (s := setBlock fin 0 s) h)
  | fixed fin => exact h
  | dynamic fin => exact readHlit_buffersOk (s := setCont .hlit (setBlock fin 2 s)) h
  | reserved fin => exact failInfl_buffersOk _ (s := setBlock fin 3 s) h
  | lit b => exact output_buffersOk _ (s := setCont .none s) h
  | eob => exact h
  | len c e => exact h
  | litlenReserved => exact failInfl_buffersOk _ h
  | dist c e => exact wireDist_buffersOk _ _ h
  | distReserved => exact failInfl_buffersOk _ h
  | clLen v => exact appendLens_buffersOk _ _ h
  | clPrev e => exact wireClPrev_buffersOk _ h
  | clZero base e => exact repeatLens_buffersOk _ _ h
  | zlibHeader c f => exact wireZlibHeader_buffersOk _ _ h
  | zlibTrailer t => exact wireZlibTrailer_buffersOk _ h
  | zipLocal => exact wireLocal_buffersOk h
  | zipCentral => exact wireCentral_buffersOk h
  | zipEnd => exact wireEnd_buffersOk h
  | command => exact h

/-! ## Tasks -/

theorem runInfl_buffersOk {s : State} (h : s.buffersOk) : (runInfl s).All State.buffersOk := by
  have hf := inflFetch_buffersOk h
  unfold runInfl
  generalize inflFetch s = g at hf
  cases hf with
  | word hs =>
    simp only
    split
    · exact wire_buffersOk _ hs
    · exact badWord_buffersOk _ _ hs
  | other hr => exact hr
  | finished => exact h

theorem runZipParse_buffersOk {s : State} (h : s.buffersOk) : (runZipParse s).All State.buffersOk := by
  have hf := zipFetch_buffersOk h
  unfold runZipParse
  generalize zipFetch s = g at hf
  cases hf with
  | word hs =>
    simp only
    split
    · exact wire_buffersOk _ hs
    · exact badRecord_buffersOk hs
  | other hr => exact hr
  | finished => exact h

theorem runTask_buffersOk (t : Task) (s : State) (h : s.buffersOk) : (runTask t s).All State.buffersOk := by
  have hp : State.buffersOk { s with tasks := s.tasks.tail } := h
  cases t with
  | pend d bs => exact runPend_buffersOk d bs hp
  | flush d => exact runFlush_buffersOk d hp
  | push bs => exact outPush_buffersOk bs hp
  | infl => exact runInfl_buffersOk h
  | zipParse => exact runZipParse_buffersOk h
  | deflRun => exact runDefl_buffersOk hp
  | deflGo => exact runDeflGo_buffersOk hp
  | flushBlock final => exact runFlushBlock_buffersOk final hp
  | deflTail => exact writeOps_buffersOk _ _ (s := { s with tasks := _ }) h
  | compress => exact runCompress_buffersOk hp
  | itemData i => exact runItemData_buffersOk i hp
  | setLevel i lv => exact runSetLevel_buffersOk i lv hp
  | saveItem => exact runSaveItem_buffersOk hp
  | saveDecoded => exact runSaveDecoded_buffersOk hp
  | saveLocal m => exact runSaveLocal_buffersOk m hp
  | res | inflRes | slide | blockEnd | blockDone | deflDone | deflInputRes | deflFinishRes | sinkClear => exact hp

/-! ## What the commands share -/

theorem finish_buffersOk {f : State → Res} {s : State} (h : s.buffersOk)
    (hf : ∀ s, State.buffersOk s → (f s).All State.buffersOk) : NextAll State.buffersOk (finish f s) :=
  finish_keeps buffersOk_frame h hf

theorem launch_buffersOk {f : State → Res} {s : State} (h : s.buffersOk)
    (hf : ∀ s, State.buffersOk s → (f s).All State.buffersOk) : NextAll State.buffersOk (launch f s) :=
  launch_keeps buffersOk_frame runTask_buffersOk h hf

theorem hencPrologue_all {P : State → Prop} {opc : Nat} {t : BitVec 8} {s : State} {f : Sel → Res} (h : P s)
    (hf : ∀ k, (f k).All P) : (hencPrologue opc t s f).All P := by
  refine guardErr_all h ?_
  cases selOf t with
  | none => exact h
  | some k => exact hf k

theorem hdecPrologue_all {P : State → Prop} {opc : Nat} {t : BitVec 8} {s : State} {f : Sel → Res} (h : P s)
    (hf : ∀ k, (f k).All P) : (hdecPrologue opc t s f).All P := by
  refine guardErr_all h ?_
  cases selOf t with
  | none => exact h
  | some k => exact hf k

theorem zipItem_all {P : State → Prop} {opc i : Nat} {s : State} {f : Entry → Res} (h : P s)
    (hf : ∀ e, (f e).All P) : (zipItem opc i s f).All P := by
  unfold zipItem
  split
  · exact h
  · exact hf _

theorem setTree_buffersOk (t : Sel) (x : HTree) {s : State} (h : s.buffersOk) : (setTree s t x).buffersOk := by
  cases t <;> exact h

theorem rawW_buffersOk (opc : Nat) (bs : Bytes) {s : State} (h : s.buffersOk) : (rawW opc bs s).All State.buffersOk :=
  guardErr_all h (writeOps_buffersOk _ _ h)

/-- A counted command takes bytes from IN and goes on with what keeps the bounds. -/
theorem takeCounted_buffersOk {opc k : Nat} {s : State} {f : Bytes → State → Res} (h : s.buffersOk)
    (hf : ∀ b s, State.buffersOk s → (f b s).All State.buffersOk) : (takeCounted opc k s f).All State.buffersOk :=
  takeCounted_all h fun _ => hf _ _ (buffersOk_drop k h)

theorem addEntry_buffersOk (opc : Nat) (e : Entry) {s : State} (h : s.buffersOk) :
    (addEntry opc e s).All State.buffersOk := by
  unfold addEntry
  split <;> exact h

theorem addItem_buffersOk (opc : Nat) (s : State) (h : s.buffersOk) : (addItem opc s).All State.buffersOk :=
  guardErr_all h <| guardErr_all h <| takeCounted_buffersOk h fun _ _ hs => by
    split
    · exact hs
    · exact addEntry_buffersOk _ _ hs

/-! ## The commands that do more than guard and return -/

theorem execHencReset_buffersOk {s : State} (h : s.buffersOk) (t : BitVec 8) :
    NextAll State.buffersOk (execHencReset t s) := by
  exact finish_buffersOk h fun s hs => hencPrologue_all hs fun k => setTree_buffersOk k _ hs

theorem execHencRecord_buffersOk {s : State} (h : s.buffersOk) (t : BitVec 8) (sym : BitVec 16) :
    NextAll State.buffersOk (execHencRecord t sym s) := by
  exact finish_buffersOk h fun s hs => hencPrologue_all hs fun k =>
    guardErr_all hs (setTree_buffersOk k _ hs)

theorem execHencBuildTree_buffersOk {s : State} (h : s.buffersOk) (t : BitVec 8) :
    NextAll State.buffersOk (execHencBuildTree t s) := by
  refine finish_buffersOk h fun s hs => hencPrologue_all hs fun k => ?_
  simp only
  split
  · exact hs
  · exact setTree_buffersOk k _ hs

theorem execHencBuildCodes_buffersOk {s : State} (h : s.buffersOk) (t : BitVec 8) :
    NextAll State.buffersOk (execHencBuildCodes t s) := by
  exact finish_buffersOk h fun s hs => hencPrologue_all hs fun k =>
    guardErr_all hs (setTree_buffersOk k _ hs)

theorem execHencEncode_buffersOk {s : State} (h : s.buffersOk) (t : BitVec 8) (sym : BitVec 16) :
    NextAll State.buffersOk (execHencEncode t sym s) := by
  exact launch_buffersOk h fun s hs => hencPrologue_all hs fun k =>
    guardErr_all hs <| guardErr_all hs <| guardErr_all hs <| writeOps_buffersOk _ _ hs

theorem execHdecBuild_buffersOk {s : State} (h : s.buffersOk) (t : BitVec 8) :
    NextAll State.buffersOk (execHdecBuild t s) := by
  refine finish_buffersOk h fun s hs => hdecPrologue_all hs fun k => guardErr_all hs ?_
  refine takeCounted_buffersOk hs fun b s1 h1 => ?_
  simp only
  split
  · exact setTable_buffersOk k _ h1
  · split
    · exact setTable_buffersOk k _ h1
    · exact setTable_buffersOk k _ h1

theorem execHdecBuildFixed_buffersOk {s : State} (h : s.buffersOk) (t : BitVec 8) :
    NextAll State.buffersOk (execHdecBuildFixed t s) := by
  refine finish_buffersOk h fun s hs => hdecPrologue_all hs fun k => ?_
  cases k <;> exact hs

theorem execHdecDecode_buffersOk {s : State} (h : s.buffersOk) (t : BitVec 8) :
    NextAll State.buffersOk (execHdecDecode t s) := by
  refine finish_buffersOk h fun s hs => hdecPrologue_all hs fun k => guardErr_all hs ?_
  have hput := brPut_buffersOk (decodeSym_bytes_le (getTable s k).len (brSrc s)) hs
  split <;> rename_i hd <;> rw [hd] at hput
  · exact hput
  · exact hput
  · split <;> exact hput

theorem execBwWriteBits_buffersOk {s : State} (h : s.buffersOk) (n : BitVec 8) (v : BitVec 16) :
    NextAll State.buffersOk (execBwWriteBits n v s) := by
  exact launch_buffersOk h fun s hs => guardErr_all hs <| guardErr_all hs <| writeOps_buffersOk _ _ hs

theorem execBwWriteBytes_buffersOk {s : State} (h : s.buffersOk) :
    NextAll State.buffersOk (execBwWriteBytes s) := by
  exact launch_buffersOk h fun s hs => guardErr_all hs <| guardErr_all hs <| guardErr_all hs <|
    takeCounted_buffersOk hs fun _ _ h1 => rawW_buffersOk _ _ h1

theorem execBrPeek_buffersOk {s : State} (h : s.buffersOk) (n : BitVec 8) :
    NextAll State.buffersOk (execBrPeek n s) := by
  refine finish_buffersOk h fun s hs => guardErr_all hs <| guardErr_all hs ?_
  have h1 := refillNow_buffersOk n.toNat hs
  simp only
  split <;> exact h1

theorem execBrSkip_buffersOk {s : State} (h : s.buffersOk) (n : BitVec 8) :
    NextAll State.buffersOk (execBrSkip n s) := by
  refine finish_buffersOk h fun s hs => guardErr_all hs <| guardErr_all hs ?_
  have h1 := refillNow_buffersOk n.toNat hs
  exact guardErr_all h1 (brDrop_buffersOk _ h1)

theorem execLzLoad_buffersOk {s : State} (h : s.buffersOk) :
    NextAll State.buffersOk (execLzLoad s) := by
  refine finish_buffersOk h fun s hs => guardErr_all hs <| guardErr_all hs <|
    takeCounted_buffersOk hs fun _ _ h1 => ?_
  exact h1

theorem execLzFind_buffersOk {s : State} (h : s.buffersOk) :
    NextAll State.buffersOk (execLzFind s) := by
  refine finish_buffersOk h fun s hs => guardErr_all hs <| guardErr_all hs ?_
  simp only
  split_ifs <;> exact hs

theorem execDeflInput_buffersOk {s : State} (h : s.buffersOk) :
    NextAll State.buffersOk (execDeflInput s) := by
  refine launch_buffersOk h fun s hs => guardErr_all hs <| guardErr_all hs <| guardErr_all hs <|
    takeCounted_buffersOk hs fun _ _ h1 => ?_
  exact h1

theorem execZipOpen_buffersOk {s : State} (h : s.buffersOk) :
    NextAll State.buffersOk (execZipOpen s) := by
  refine launch_buffersOk h fun s hs => guardErr_all hs ?_
  simp only
  split
  · exact buffersOk_inq (Nat.zero_le _) hs
  · exact hs

theorem execZipAddDir_buffersOk {s : State} (h : s.buffersOk) :
    NextAll State.buffersOk (execZipAddDir s) := by
  refine finish_buffersOk h fun s hs => guardErr_all hs <| guardErr_all hs <|
    takeCounted_buffersOk hs fun _ s1 h1 => ?_
  split
  · exact h1
  · exact guardErr_all h1 (addEntry_buffersOk _ _ h1)

theorem execZipUpdate_buffersOk {s : State} (h : s.buffersOk) :
    NextAll State.buffersOk (execZipUpdate s) := by
  refine finish_buffersOk h fun s hs => guardErr_all hs <| zipItem_all hs fun _ => guardErr_all hs <|
    takeCounted_buffersOk hs fun _ _ h1 => ?_
  exact h1

theorem execZipFind_buffersOk {s : State} (h : s.buffersOk) :
    NextAll State.buffersOk (execZipFind s) := by
  refine finish_buffersOk h fun s hs => guardErr_all hs <| guardErr_all hs <|
    takeCounted_buffersOk hs fun _ _ h1 => ?_
  exact h1

theorem execZipItemData_buffersOk {s : State} (h : s.buffersOk) :
    NextAll State.buffersOk (execZipItemData s) := by
  refine launch_buffersOk h fun s hs => guardErr_all hs <| guardErr_all hs <| zipItem_all hs fun _ => ?_
  split <;> exact hs

theorem execZipItemInfo_buffersOk {s : State} (h : s.buffersOk) :
    NextAll State.buffersOk (execZipItemInfo s) := by
  refine finish_buffersOk h fun s hs => guardErr_all hs <| zipItem_all hs fun _ => guardErr_all hs ?_
  split <;> exact hs

theorem execZipSetItemLevel_buffersOk {s : State} (h : s.buffersOk) :
    NextAll State.buffersOk (execZipSetItemLevel s) := by
  refine launch_buffersOk h fun s hs =>
    guardErr_all hs <| guardErr_all hs <| zipItem_all hs fun _ => guardErr_all hs ?_
  split <;> exact hs

theorem execZipSave_buffersOk {s : State} (h : s.buffersOk) :
    NextAll State.buffersOk (execZipSave s) := by
  refine launch_buffersOk h fun s hs => guardErr_all hs <| guardErr_all hs <| guardErr_all hs ?_
  split <;> exact hs

theorem brReads_buffersOk {s : State} (h : s.buffersOk) {opc : Nat} {r : State → Res}
    (hr : ∀ s, State.buffersOk s → (r s).All State.buffersOk) :
    NextAll State.buffersOk (finish (fun s => inflFree opc s <| brAligned opc s <| r s) s) :=
  finish_buffersOk h fun _ hs => guardErr_all hs <| guardErr_all hs <| hr _ hs

theorem exec_buffersOk (i : Instr) {s : State} (h : s.buffersOk) : NextAll State.buffersOk (exec i s) := by
  by_cases hc : (encode i).1 = .cmd
  case neg =>
    rw [exec_wire i s hc]
    exact finishWire_keeps buffersOk_frame (wire_buffersOk i h)
  cases i <;> dsimp only [exec]
  case hencReset t => exact execHencReset_buffersOk h t
  case hencRecord t sym => exact execHencRecord_buffersOk h t sym
  case hencBuildTree t => exact execHencBuildTree_buffersOk h t
  case hencBuildCodes t => exact execHencBuildCodes_buffersOk h t
  case hencEncode t sym => exact execHencEncode_buffersOk h t sym
  case hencEstimate => exact finish_buffersOk h fun s hs => hencPrologue_all hs fun _ => hs
  case hencQuery =>
    exact finish_buffersOk h fun s hs => hencPrologue_all hs fun _ => guardErr_all hs <| guardErr_all hs hs
  case hdecBuild t => exact execHdecBuild_buffersOk h t
  case hdecBuildFixed t => exact execHdecBuildFixed_buffersOk h t
  case hdecDecode t => exact execHdecDecode_buffersOk h t
  case bwWriteBits n v => exact execBwWriteBits_buffersOk h n v
  case bwAlign => exact launch_buffersOk h fun s hs => guardErr_all hs <| writeOps_buffersOk _ _ hs
  case bwWriteBytes => exact execBwWriteBytes_buffersOk h
  case bwWriteShortLe | bwWriteShortBe | bwWriteIntLe | bwWriteIntBe =>
    exact launch_buffersOk h fun s hs => guardErr_all hs <| rawW_buffersOk _ _ hs
  case bwFlush => exact launch_buffersOk h fun s hs => guardErr_all hs hs
  case bwReset =>
    exact finish_buffersOk h fun s hs => guardErr_all hs <| buffersOk_bw (b := Bw.reset) (by decide) (by decide) hs
  case brPeek n => exact execBrPeek_buffersOk h n
  case brSkip n => exact execBrSkip_buffersOk h n
  case brRead16Le | brRead16Be =>
    exact brReads_buffersOk h fun s hs => brRead16_buffersOk _ (fun _ _ h1 => by exact h1) hs
  case brRead32Le | brRead32Be =>
    exact brReads_buffersOk h fun s hs => brRead32_buffersOk _ (fun _ _ _ h1 => by exact h1) hs
  case brAlign =>
    exact finish_buffersOk h fun s hs => guardErr_all hs <| brPut_buffersOk (b := (brSrc s).align) (Nat.le_refl _) hs
  case lzLoad => exact execLzLoad_buffersOk h
  case lzFind => exact execLzFind_buffersOk h
  case lzReset | lzAdvance => exact finish_buffersOk h fun s hs => guardErr_all hs <| guardErr_all hs hs
  case deflReset => exact finish_buffersOk h fun s hs => guardErr_all hs <| deflReset_buffersOk (ctrlParams s) hs
  case deflInput => exact execDeflInput_buffersOk h
  case deflFinish => exact launch_buffersOk h fun s hs => guardErr_all hs <| guardErr_all hs hs
  case compress => exact launch_buffersOk h fun s hs => guardErr_all hs <| deflReset_buffersOk (ctrlParams s) (s := s) hs
  case inflRun => exact launch_buffersOk h fun s hs => guardErr_all hs <| guardErr_all hs hs
  case decompress => exact launch_buffersOk h fun s hs => hs
  case zipOpen => exact execZipOpen_buffersOk h
  case zipAddItem | zipAddFile => exact finish_buffersOk h (addItem_buffersOk _)
  case zipAddDir => exact execZipAddDir_buffersOk h
  case zipUpdate => exact execZipUpdate_buffersOk h
  case zipRemove => exact finish_buffersOk h fun s hs => guardErr_all hs <| zipItem_all hs fun _ => hs
  case zipFind => exact execZipFind_buffersOk h
  case zipItemData => exact execZipItemData_buffersOk h
  case zipItemInfo => exact execZipItemInfo_buffersOk h
  case zipItemName => exact launch_buffersOk h fun s hs => guardErr_all hs <| zipItem_all hs fun _ => hs
  case zipSetItemLevel => exact execZipSetItemLevel_buffersOk h
  case zipSave => exact execZipSave_buffersOk h
  case reset => exact finish_buffersOk h fun s hs => buffersOk_softReset hs
  case adlerUpdate | crcUpdate =>
    exact finish_buffersOk h fun s hs => guardErr_all hs <| takeCounted_buffersOk hs fun _ _ h1 => by exact h1
  case zipNew | brReset | brAvail | bwStatus => exact finish_buffersOk h fun s hs => guardErr_all hs hs
  case nop | adlerInit | crcInit | inflReset | zipClose | zipInfo => exact finish_buffersOk h fun s hs => hs
  all_goals cases hc

/-! ## The step -/

theorem runLatched_buffersOk {s : State} (h : s.buffersOk) : NextAll State.buffersOk (runLatched s) := by
  unfold runLatched
  split
  · exact exec_buffersOk _ h
  · exact (nextAll_next _ _).2 h

/-- The wire symbol of a running command stands at the decompressor's cursor or at the parser's. -/
theorem fetchInstr_some {s : State} {r : Instr × State} (hr : fetchInstr s = some r) :
    ∃ f w, inflFetch s = .word f w r.2 ∨ zipFetch s = .word f w r.2 := by
  simp only [fetchInstr] at hr
  split at hr
  case h_2 => cases hr
  case h_1 f w s1 hm =>
    have hs : s1 = r.2 := by
      split at hr <;> cases hr
      rfl
    subst hs
    refine ⟨f, w, ?_⟩
    split at hm
    · exact .inl hm
    · exact .inr hm
    · cases hm

theorem fetchInstr_buffersOk {s : State} (h : s.buffersOk) {r : Instr × State} (hr : fetchInstr s = some r) :
    r.2.buffersOk := by
  obtain ⟨f, w, hw | hw⟩ := fetchInstr_some hr
  · cases hw ▸ inflFetch_buffersOk h with
    | word hs => exact hs
  · cases hw ▸ zipFetch_buffersOk h with
    | word hs => exact hs

theorem resume_buffersOk {s : State} (h : s.buffersOk) : NextAll State.buffersOk (resume s) := by
  unfold resume
  split
  · exact runLatched_buffersOk h
  · split
    · exact runOn_keeps buffersOk_frame runTask_buffersOk (exec_buffersOk _ (fetchInstr_buffersOk h ‹_›))
    · exact (nextAll_next _ _).2 (run_keeps buffersOk_frame runTask_buffersOk h)

/-- A byte pushed into a full IN is dropped (log 5). -/
theorem writeReg_buffersOk (off : BitVec 8) (v : Word) {s : State} (h : s.buffersOk) : (writeReg off v s).buffersOk := by
  unfold writeReg
  split
  case h_2 =>
    split
    · exact h
    · rename_i hfull
      obtain ⟨hn, hp, ho, -⟩ := h
      refine ⟨hn, hp, ho, ?_⟩
      have := (Bool.or_eq_false_iff.1 (Bool.eq_false_iff.2 hfull)).2
      simpa [State.inOk, inFull, overInCap] using this
  case h_3 =>
    have hempty : State.buffersOk { s with inq := [], inEnd := false } := buffersOk_inq (Nat.zero_le _) h
    simp only
    split_ifs
    exacts [hempty, h, hempty, h]
  case h_10 => exact h
  all_goals split <;> exact h

theorem hostAct_buffersOk (a : HostAct) {s : State} (h : s.buffersOk) : (hostAct a s).buffersOk := by
  cases a with
  | write off bytes v =>
    simp only [hostAct]
    split
    · split
      · exact h
      · exact writeReg_buffersOk off v h
    · exact h
  | read off bytes =>
    simp only [hostAct, hostRead]
    split
    · split
      · exact buffersOk_outq (bs := s.outq.tail) (by simp) h
      · exact h
    · exact h
  | hwReset => exact buffersOk_hardReset s

theorem step_buffersOk {s : State} (h : s.buffersOk) : NextAll State.buffersOk (step s) := by
  unfold step
  split
  · exact resume_buffersOk (s := clearWait s) h
  · split
    · exact (nextAll_next _ _).2 h
    · unfold hostStep
      split
      · exact runLatched_buffersOk (s := issue _ _) h
      · exact (nextAll_next _ _).2 (hostAct_buffersOk _ h)

/-- Settles O57: the bounds are kept by every command, by every task of a running command, and by every host action. -/
theorem everyStepKeepsBuffersWithinCapacity : Obligations.EveryStepKeepsBuffersWithinCapacity :=
  fun _ t h hst => step_buffersOk h t hst

end Sys2Proof.Machine
end

section
/-! PROOFS. The reference length assignment (43_huffman_encoder.md R256-R259): its tree is complete, its limit keeps the Kraft sum, and
what any row of HUFF_LENGTHS gives meets the same contract. -/

namespace Sys2Proof.Machine

/-! ## Replacing elements -/

theorem getD_setAt {α : Type} (l : List α) (i j : Nat) (v d : α) :
    (setAt l i v).getD j d = if i = j ∧ i < l.length then v else l.getD j d := by
  induction l generalizing i j with
  | nil => simp [setAt]
  | cons x xs ih =>
    match i, j with
    | 0, 0 | 0, _ + 1 | _ + 1, 0 => simp [setAt]
    | i + 1, j + 1 => simpa [setAt] using ih i j

/-- What a length adds to the Kraft sum in units of 2^-15 (R215). -/
def kraftTerm (l : Nat) : Nat := if l = 0 then 0 else 2 ^ (15 - l)

theorem kraft_setAt (ls : List Nat) {i : Nat} (v : Nat) (hi : i < ls.length) :
    kraft (setAt ls i v) + kraftTerm (ls.getD i 0) = kraft ls + kraftTerm v := by
  induction ls generalizing i with
  | nil => simp at hi
  | cons x xs ih =>
    cases i with
    | zero => simp only [setAt, kraft, kraftTerm, List.getD_cons_zero]; omega
    | succ i =>
      have := ih (i := i) (by simpa using hi)
      simp only [setAt, kraft, List.getD_cons_succ]
      omega

/-! ## Spreading (symbol, length) pairs over the alphabet -/

/-- `spread` from any list. -/
def spreadOn (ls : List Nat) (ps : List (Nat × Nat)) : List Nat := ps.foldl (fun ls p => setAt ls p.1 p.2) ls

theorem spread_eq (n : Nat) (ps : List (Nat × Nat)) : spread n ps = spreadOn (List.replicate n 0) ps := rfl

theorem spreadOn_cons (ls : List Nat) (p : Nat × Nat) (ps : List (Nat × Nat)) :
    spreadOn ls (p :: ps) = spreadOn (setAt ls p.1 p.2) ps := rfl

@[simp] theorem spreadOn_length (ls : List Nat) (ps : List (Nat × Nat)) : (spreadOn ls ps).length = ls.length := by
  induction ps generalizing ls with
  | nil => rfl
  | cons p ps ih => rw [spreadOn_cons, ih, setAt_length]

theorem spreadOn_getD_other {ls : List Nat} {ps : List (Nat × Nat)} {s : Nat} (hs : s ∉ ps.map Prod.fst) :
    (spreadOn ls ps).getD s 0 = ls.getD s 0 := by
  induction ps generalizing ls with
  | nil => rfl
  | cons p ps ih =>
    simp only [List.map_cons, List.mem_cons, not_or] at hs
    rw [spreadOn_cons, ih hs.2, getD_setAt, if_neg (fun h => hs.1 h.1.symm)]

theorem spreadOn_getD_mem {ls : List Nat} {ps : List (Nat × Nat)} (hnd : (ps.map Prod.fst).Nodup)
    (hlt : ∀ p ∈ ps, p.1 < ls.length) {p : Nat × Nat} (hp : p ∈ ps) : (spreadOn ls ps).getD p.1 0 = p.2 := by
  induction ps generalizing ls with
  | nil => simp at hp
  | cons q ps ih =>
    rw [List.map_cons, List.nodup_cons] at hnd
    rw [spreadOn_cons]
    rcases List.mem_cons.1 hp with rfl | hp
    · rw [spreadOn_getD_other hnd.1, getD_setAt, if_pos ⟨rfl, hlt _ (by simp)⟩]
    · exact ih hnd.2 (fun r hr => by simpa using hlt r (by simp [hr])) hp

/-- Lengths put where there were none each add their term to the Kraft sum. -/
theorem kraft_spreadOn {ls : List Nat} {ps : List (Nat × Nat)} (hnd : (ps.map Prod.fst).Nodup)
    (hlt : ∀ p ∈ ps, p.1 < ls.length) (h0 : ∀ p ∈ ps, ls.getD p.1 0 = 0) :
    kraft (spreadOn ls ps) = kraft ls + ((ps.map Prod.snd).map kraftTerm).sum := by
  induction ps generalizing ls with
  | nil => rfl
  | cons p ps ih =>
    rw [List.map_cons, List.nodup_cons] at hnd
    have hput := kraft_setAt ls p.2 (hlt p (by simp))
    have h0p : ls.getD p.1 0 = 0 := h0 p (by simp)
    have hzero : ∀ q ∈ ps, (setAt ls p.1 p.2).getD q.1 0 = 0 := fun q hq => by
      have hne : p.1 ≠ q.1 := fun he => hnd.1 (he ▸ List.mem_map_of_mem hq)
      rw [getD_setAt, if_neg (fun h => hne h.1), h0 q (by simp [hq])]
    rw [spreadOn_cons, ih hnd.2 (fun q hq => by simpa using hlt q (by simp [hq])) hzero]
    simp only [List.map_cons, List.sum_cons]
    rw [h0p] at hput
    simp only [kraftTerm, if_true] at hput ⊢
    omega

theorem kraft_replicate_zero (n : Nat) : kraft (List.replicate n 0) = 0 := by
  induction n with
  | zero => rfl
  | succ n ih => simp [List.replicate_succ, kraft, ih]

/-! ## The used symbols -/

theorem usedFrom_length (i : Nat) (fs : List Nat) : (usedFrom i fs).length = fs.countP (fun f => decide (0 < f)) := by
  induction fs generalizing i with
  | nil => rfl
  | cons f fs ih =>
    simp only [usedFrom, List.countP_cons, decide_eq_true_eq]
    split <;> simp [ih]

/-- A symbol is used exactly where its frequency is positive. -/
theorem mem_usedFrom (i s : Nat) (fs : List Nat) :
    s ∈ (usedFrom i fs).map Prod.fst ↔ i ≤ s ∧ 0 < fs.getD (s - i) 0 := by
  induction fs generalizing i with
  | nil => simp [usedFrom]
  | cons f fs ih =>
    have hstep : i + 1 ≤ s → s - i = (s - (i + 1)) + 1 := by omega
    by_cases hs : i + 1 ≤ s
    · have hne : s ≠ i := by omega
      simp only [usedFrom]
      split <;> simp [ih, hstep hs, hs, hne, show i ≤ s by omega]
    · by_cases he : s = i
      · subst he
        simp only [usedFrom]
        split <;> simp_all
      · simp only [usedFrom]
        split <;> simp [ih, hs, he, show ¬ i ≤ s by omega]

theorem usedFrom_nodup (i : Nat) (fs : List Nat) : ((usedFrom i fs).map Prod.fst).Nodup := by
  induction fs generalizing i with
  | nil => exact List.nodup_nil
  | cons f fs ih =>
    simp only [usedFrom]
    split
    · rw [List.map_cons, List.nodup_cons]
      exact ⟨fun h => by have := ((mem_usedFrom _ _ _).1 h).1; simp only at this; omega, ih (i + 1)⟩
    · exact ih (i + 1)

/-! ## The contract -/

/-- The lengths of a list with at least two used symbols (R250): at most m, on exactly the used symbols, with Kraft sum 1. -/
def CompleteLengths (freq : List Nat) (m : Nat) (len : List Nat) : Prop :=
  len.length = freq.length ∧ (∀ s, len.getD s 0 ≤ m) ∧ (∀ s, 0 < len.getD s 0 ↔ 0 < freq.getD s 0) ∧ kraft len = 32768

/-- Σ 2^(n - l), the Kraft sum in units of 2^-n. -/
def kraftAt (n : Nat) (ls : List Nat) : Nat := (ls.map (fun l => 2 ^ (n - l))).sum

/-- Units of 2^-15 are units of 2^-m, 2^(15-m) times. -/
theorem kraftTerm_sum {m : Nat} (hm : m ≤ 15) {ls : List Nat} (h : ∀ l ∈ ls, 1 ≤ l ∧ l ≤ m) :
    (ls.map kraftTerm).sum = 2 ^ (15 - m) * kraftAt m ls := by
  induction ls with
  | nil => rfl
  | cons l ls ih =>
    obtain ⟨h1, h2⟩ := h l (by simp)
    have hpow : 2 ^ (15 - l) = 2 ^ (15 - m) * 2 ^ (m - l) := by rw [← Nat.pow_add]; congr 1; omega
    have hrest := ih fun x hx => h x (by simp [hx])
    simp only [kraftAt, List.map_cons, List.sum_cons, Nat.mul_add] at hrest ⊢
    rw [hrest, kraftTerm, if_neg (by omega), hpow]

/-- Pairs that give each used symbol a length from 1 to m, with Kraft sum 1, spread to complete lengths. -/
theorem spread_complete {freq : List Nat} {m : Nat} (hm : m ≤ 15) {ps : List (Nat × Nat)}
    (hsym : (ps.map Prod.fst).Perm ((usedFrom 0 freq).map Prod.fst)) (hlen : ∀ l ∈ ps.map Prod.snd, 1 ≤ l ∧ l ≤ m)
    (hk : kraftAt m (ps.map Prod.snd) = 2 ^ m) : CompleteLengths freq m (spread freq.length ps) := by
  have hnd : (ps.map Prod.fst).Nodup := hsym.nodup_iff.2 (usedFrom_nodup 0 freq)
  have hmem : ∀ s, s ∈ ps.map Prod.fst ↔ 0 < freq.getD s 0 := fun s => by simp [hsym.mem_iff, mem_usedFrom]
  have hlt : ∀ p ∈ ps, p.1 < (List.replicate freq.length 0).length := fun p hp => by
    have hpos := (hmem p.1).1 (List.mem_map_of_mem hp)
    rw [List.length_replicate]
    by_contra hge
    rw [List.getD_eq_default _ _ (by omega)] at hpos
    omega
  have hzero : ∀ s, (List.replicate freq.length 0).getD s 0 = 0 := fun s => by
    simp [List.getD_eq_getElem?_getD, List.getElem?_replicate]
    split <;> rfl
  have hget : ∀ s, s ∉ ps.map Prod.fst ∧ (spread freq.length ps).getD s 0 = 0 ∨
      s ∈ ps.map Prod.fst ∧ 1 ≤ (spread freq.length ps).getD s 0 ∧ (spread freq.length ps).getD s 0 ≤ m := fun s => by
    by_cases hs : s ∈ ps.map Prod.fst
    · obtain ⟨p, hp, rfl⟩ := List.mem_map.1 hs
      right
      rw [spread_eq, spreadOn_getD_mem hnd hlt hp]
      exact ⟨hs, hlen p.2 (List.mem_map_of_mem hp)⟩
    · left
      rw [spread_eq, spreadOn_getD_other hs]
      exact ⟨hs, hzero s⟩
  refine ⟨by simp [spread_eq], fun s => ?_, fun s => ?_, ?_⟩
  · rcases hget s with ⟨-, h⟩ | ⟨-, -, h⟩ <;> omega
  · rw [← hmem s]
    rcases hget s with ⟨hs, h⟩ | ⟨hs, h, -⟩
    · simp only [hs, h, Nat.lt_irrefl]
    · simp only [hs, iff_true]; omega
  · rw [spread_eq, kraft_spreadOn hnd hlt fun p _ => hzero p.1, kraft_replicate_zero, kraftTerm_sum hm hlen, hk,
      ← Nat.pow_add, Nat.zero_add, show 15 - m + m = 15 by omega]

/-! ## The tree (R256) -/

/-- The symbols of a tree's leaves. -/
def HNode.leaves : HNode → List Nat
  | .leaf s => [s]
  | .node a b => a.leaves ++ b.leaves

theorem HNode.depths_fst (t : HNode) (d : Nat) : (t.depths d).map Prod.fst = t.leaves := by
  induction t generalizing d with
  | leaf s => rfl
  | node a b iha ihb => simp [HNode.depths, HNode.leaves, iha, ihb]

theorem HNode.le_depths (t : HNode) (d : Nat) : ∀ l ∈ (t.depths d).map Prod.snd, d ≤ l := by
  induction t generalizing d with
  | leaf s => simp [HNode.depths]
  | node a b iha ihb =>
    intro l hl
    rw [HNode.depths, List.map_append, List.mem_append] at hl
    have := hl.elim (iha (d + 1) l) (ihb (d + 1) l)
    omega

theorem HNode.depths_ne_nil (t : HNode) (d : Nat) : t.depths d ≠ [] := by
  induction t generalizing d with
  | leaf s => simp [HNode.depths]
  | node a b iha _ => simp [HNode.depths, iha]

/-- A binary tree is complete: its leaves' Kraft sum is that of its root. -/
theorem HNode.kraft_depths {n : Nat} (t : HNode) (d : Nat) (h : ∀ l ∈ (t.depths d).map Prod.snd, l ≤ n) :
    kraftAt n ((t.depths d).map Prod.snd) = 2 ^ (n - d) := by
  induction t generalizing d with
  | leaf s => simp [HNode.depths, kraftAt]
  | node a b iha ihb =>
    simp only [HNode.depths, List.map_append, List.mem_append] at h
    obtain ⟨p, hp⟩ := List.exists_mem_of_ne_nil _ (a.depths_ne_nil (d + 1))
    have hp := List.mem_map_of_mem (f := Prod.snd) hp
    have hlo := a.le_depths (d + 1) _ hp
    have hhi := h _ (.inl hp)
    have ha := iha (d + 1) fun l hl => h l (.inl hl)
    have hb := ihb (d + 1) fun l hl => h l (.inr hl)
    rw [kraftAt] at ha hb
    rw [HNode.depths, kraftAt, List.map_append, List.map_append, List.sum_append, ha, hb,
      show n - d = n - (d + 1) + 1 by omega, Nat.pow_succ]
    omega

/-- The symbols on the heap. -/
def heapLeaves (h : List HItem) : List Nat := h.flatMap (fun x => x.node.leaves)

theorem heapPush_perm (x : HItem) (h : List HItem) : (heapPush x h).Perm (x :: h) := by
  induction h with
  | nil => exact .refl _
  | cons y ys ih =>
    simp only [heapPush]
    split
    · exact .refl _
    · exact (ih.cons y).trans (.swap x y ys)

theorem heapInit_length (i : Nat) (us : List (Nat × Nat)) : (heapInit i us).length = us.length := by
  induction us generalizing i with
  | nil => rfl
  | cons u us ih => rw [heapInit, (heapPush_perm _ _).length_eq, List.length_cons, ih, List.length_cons]

theorem heapInit_leaves (i : Nat) (us : List (Nat × Nat)) : (heapLeaves (heapInit i us)).Perm (us.map Prod.fst) := by
  induction us generalizing i with
  | nil => exact .refl _
  | cons u us ih => exact ((heapPush_perm _ _).flatMap_right _).trans ((ih (i + 1)).cons u.1)

/-- With a merge for all entries but one, merging ends in one tree over the heap's symbols: HEAP_INVARIANT is not met (R263). -/
theorem heapMerge_some (k seq : Nat) (h : List HItem) (hne : h ≠ []) (hk : h.length ≤ k + 1) :
    ∃ root, heapMerge k seq h = some root ∧ root.leaves.Perm (heapLeaves h) := by
  induction k generalizing seq h with
  | zero =>
    match h, hne, hk with
    | [x], _, _ => exact ⟨x.node, rfl, by simp [heapLeaves]⟩
  | succ k ih =>
    match h, hne, hk with
    | [x], _, _ => exact ⟨x.node, rfl, by simp [heapLeaves]⟩
    | a :: b :: rest, _, hk =>
      have hp := heapPush_perm ⟨a.weight + b.weight, seq, .node a.node b.node⟩ rest
      have hlen : (heapPush ⟨a.weight + b.weight, seq, .node a.node b.node⟩ rest).length ≤ k + 1 := by
        rw [hp.length_eq]; simpa using hk
      have hne' : heapPush ⟨a.weight + b.weight, seq, .node a.node b.node⟩ rest ≠ [] := fun he => by simp [he] at hp
      obtain ⟨root, hr, hl⟩ := ih (seq + 1) _ hne' hlen
      exact ⟨root, hr, hl.trans ((hp.flatMap_right _).trans (by simp [HNode.leaves, heapLeaves]))⟩

/-- The tree of two or more used symbols. -/
theorem tree_some {us : List (Nat × Nat)} (h : 2 ≤ us.length) :
    ∃ root, heapMerge us.length us.length (heapInit 0 us) = some root ∧ root.leaves.Perm (us.map Prod.fst) := by
  have hl := heapInit_length 0 us
  have hne : heapInit 0 us ≠ [] := fun he => by rw [he] at hl; simp at hl; omega
  obtain ⟨root, hr, hp⟩ := heapMerge_some us.length us.length _ hne (by omega)
  exact ⟨root, hr, hp.trans (heapInit_leaves 0 us)⟩

/-- The reference assigns lengths to every frequency list. -/
theorem huffLengths_isSome (freq : List Nat) (m : Nat) : (huffLengths freq m).isSome = true := by
  simp only [huffLengths]
  split
  · rfl
  · obtain ⟨root, hr, -⟩ := tree_some (us := usedFrom 0 freq) (by omega)
    rw [hr]
    simp only
    split <;> rfl

/-! ## Tallies of a count list -/

/-- Σ cnt[i]·w[i] over the m entries of a count list. -/
def tally (w : Nat → Nat) (m : Nat) (cnt : List Nat) : Nat := ((List.range m).map (fun i => cnt.getD i 0 * w i)).sum

theorem limitTotal_eq (m : Nat) (cnt : List Nat) : limitTotal m cnt = tally (fun i => 2 ^ (m - (i + 1))) m cnt := rfl

theorem tally_succ (w : Nat → Nat) (m : Nat) (cnt : List Nat) :
    tally w (m + 1) cnt = tally w m cnt + cnt.getD m 0 * w m := by
  simp [tally, List.range_succ]

theorem tally_congr {w w' : Nat → Nat} {m : Nat} {cnt cnt' : List Nat}
    (h : ∀ i, i < m → cnt.getD i 0 * w i = cnt'.getD i 0 * w' i) : tally w m cnt = tally w' m cnt' := by
  unfold tally
  congr 1
  exact List.map_congr_left fun i hi => h i (List.mem_range.1 hi)

/-- Replacing an entry replaces its share. -/
theorem tally_setAt (w : Nat → Nat) {m i : Nat} {cnt : List Nat} (v : Nat) (hi : i < m) (hl : i < cnt.length) :
    tally w m (setAt cnt i v) + cnt.getD i 0 * w i = tally w m cnt + v * w i := by
  induction m with
  | zero => omega
  | succ m ih =>
    rw [tally_succ, tally_succ, getD_setAt]
    by_cases he : i = m
    · subst he
      have : tally w i (setAt cnt i v) = tally w i cnt := tally_congr fun j hj => by
        rw [getD_setAt, if_neg (fun h => by omega)]
      rw [if_pos ⟨rfl, hl⟩, this]
      omega
    · have := ih (by omega)
      rw [if_neg (fun h => he h.1)]
      omega

/-- One off an entry. -/
theorem tally_dec (w : Nat → Nat) {m i : Nat} {cnt : List Nat} (hi : i < m) (hl : i < cnt.length)
    (hpos : 0 < cnt.getD i 0) :
    tally w m (setAt cnt i (cnt.getD i 0 - 1)) + w i = tally w m cnt := by
  have h := tally_setAt w (cnt.getD i 0 - 1) hi hl
  obtain ⟨a, ha⟩ := Nat.exists_eq_add_of_lt hpos
  rw [ha, Nat.add_mul] at h
  rw [ha]
  simp only [Nat.zero_add, Nat.add_sub_cancel, Nat.one_mul] at h ⊢
  omega

/-- Two more on an entry. -/
theorem tally_add_two (w : Nat → Nat) {m i : Nat} {cnt : List Nat} (hi : i < m) (hl : i < cnt.length) :
    tally w m (setAt cnt i (cnt.getD i 0 + 2)) = tally w m cnt + 2 * w i := by
  have h := tally_setAt w (cnt.getD i 0 + 2) hi hl
  rw [Nat.add_mul] at h
  omega

theorem tally_zero {w : Nat → Nat} {m : Nat} {cnt : List Nat} (h : ∀ i, i < m → cnt.getD i 0 = 0) : tally w m cnt = 0 := by
  induction m with
  | zero => rfl
  | succ m ih => rw [tally_succ, ih fun i hi => h i (by omega), h m (by omega)]; simp

/-- A list of lengths tallies as the sum over its members (R259). -/
theorem limitLens_sum (f : Nat → Nat) (m : Nat) (cnt : List Nat) :
    ((limitLens cnt m).map f).sum = tally (fun i => f (i + 1)) m cnt := by
  induction m with
  | zero => rfl
  | succ m ih => simp [limitLens, ih, tally_succ, Nat.add_comm]

theorem limitLens_length (m : Nat) (cnt : List Nat) : (limitLens cnt m).length = tally (fun _ => 1) m cnt := by
  rw [← limitLens_sum (fun _ => 1)]; simp

theorem limitLens_bounds (m : Nat) (cnt : List Nat) : ∀ l ∈ limitLens cnt m, 1 ≤ l ∧ l ≤ m := by
  induction m with
  | zero => simp [limitLens]
  | succ m ih =>
    intro l hl
    rcases List.mem_append.1 hl with h | h
    · obtain rfl := List.eq_of_mem_replicate h
      omega
    · have := ih l h
      omega

/-! ## The first counts (R258) -/

theorem limitCounts_getD {m i : Nat} (hi : i < m) (ls : List Nat) :
    (limitCounts m ls).getD i 0 = ls.countP (fun l => min l m == i + 1) := by
  simp [limitCounts, List.getD_eq_getElem?_getD, hi]

/-- The counts of clamped lengths tally as the clamped lengths do. -/
theorem tally_limitCounts (f : Nat → Nat) (m : Nat) (ls : List Nat) (h : ∀ l ∈ ls, 1 ≤ l) (hm : 1 ≤ m) :
    tally (fun i => f (i + 1)) m (limitCounts m ls) = (ls.map (fun l => f (min l m))).sum := by
  induction ls with
  | nil => exact tally_zero fun i hi => limitCounts_getD hi []
  | cons l ls ih =>
    have hl := h l (by simp)
    have hone : ∀ k, k ≤ m → tally (fun i => f (i + 1)) k (limitCounts m (l :: ls)) =
        tally (fun i => f (i + 1)) k (limitCounts m ls) + if min l m ≤ k then f (min l m) else 0 := fun k => by
      induction k with
      | zero => intro _; simp [tally]; omega
      | succ k ihk =>
        intro hk
        rw [tally_succ, tally_succ, ihk (by omega), limitCounts_getD (by omega), limitCounts_getD (by omega),
          List.countP_cons]
        by_cases he : min l m = k + 1
        · simp [he, Nat.add_mul]; omega
        · have hiff : min l m ≤ k ↔ min l m ≤ k + 1 := by omega
          have hne : ¬ (min l m == k + 1) = true := by rwa [beq_iff_eq]
          simp only [hiff, hne, Bool.false_eq_true, if_false, Nat.add_zero]
          omega
    rw [hone m (Nat.le_refl m), ih fun x hx => h x (by simp [hx]), if_pos (Nat.min_le_right l m)]
    simp [Nat.add_comm]

/-- Clamping lengths to m never lowers the Kraft sum. -/
theorem kraftAt_le_clamped {n m : Nat} (hm : m ≤ n) (ls : List Nat) (hn : ∀ l ∈ ls, l ≤ n) :
    kraftAt n ls ≤ 2 ^ (n - m) * (ls.map (fun l => 2 ^ (m - min l m))).sum := by
  induction ls with
  | nil => simp [kraftAt]
  | cons l ls ih =>
    have hl := hn l (by simp)
    have hpow : 2 ^ (n - l) ≤ 2 ^ (n - m) * 2 ^ (m - min l m) := by
      rw [← Nat.pow_add]
      exact Nat.pow_le_pow_right (by omega) (by omega)
    have hrest := ih fun x hx => hn x (by simp [hx])
    simp only [kraftAt, List.map_cons, List.sum_cons, Nat.mul_add] at hrest ⊢
    omega

/-- What clamping adds is below one unit for each length that reaches m. -/
theorem clamped_le_kraftAt {n m : Nat} (hm : m ≤ n) (ls : List Nat) (hn : ∀ l ∈ ls, l ≤ n) :
    2 ^ (n - m) * (ls.map (fun l => 2 ^ (m - min l m))).sum + ls.countP (fun l => min l m == m) ≤
      kraftAt n ls + 2 ^ (n - m) * ls.countP (fun l => min l m == m) := by
  induction ls with
  | nil => simp [kraftAt]
  | cons l ls ih =>
    have hl := hn l (by simp)
    have hrest := ih fun x hx => hn x (by simp [hx])
    simp only [kraftAt, List.map_cons, List.sum_cons, Nat.mul_add, List.countP_cons, beq_iff_eq] at hrest ⊢
    by_cases hlm : m ≤ l
    · have hone : 1 ≤ 2 ^ (n - l) := Nat.one_le_two_pow
      rw [Nat.min_eq_right hlm, if_pos rfl]
      simp only [Nat.sub_self, Nat.pow_zero]
      omega
    · have hpow : 2 ^ (n - m) * 2 ^ (m - min l m) = 2 ^ (n - l) := by rw [← Nat.pow_add]; congr 1; omega
      rw [if_neg (by omega), hpow]
      omega

/-! ## The passes (R258) -/

/-- Between passes: n codes in all, k units above a Kraft sum of 1, and more than k codes of the greatest length to shorten. -/
structure LimitInv (m n k : Nat) (cnt : List Nat) : Prop where
  length : cnt.length = m
  count : tally (fun _ => 1) m cnt = n
  total : limitTotal m cnt = 2 ^ m + k
  spare : k < cnt.getD (m - 1) 0

theorem limitPick_spec {cnt : List Nat} {b : Nat} (h : ∃ j, j < b ∧ 0 < cnt.getD j 0) :
    limitPick cnt b < b ∧ 0 < cnt.getD (limitPick cnt b) 0 := by
  induction b with
  | zero => omega
  | succ b ih =>
    simp only [limitPick]
    split
    · exact ⟨by omega, ‹_›⟩
    · obtain ⟨j, hj, hpos⟩ := h
      have hne : j ≠ b := fun he => by subst he; omega
      have := ih ⟨j, by omega, hpos⟩
      exact ⟨by omega, this.2⟩

/-- A pass takes one code of the greatest length and one of length i + 1, and makes two of length i + 2. -/
theorem tally_limitPass {m : Nat} {cnt : List Nat} (hl : cnt.length = m + 1) (hlast : 0 < cnt.getD m 0)
    (hex : ∃ j, j < m ∧ 0 < cnt.getD j 0) :
    ∃ i, i < m ∧ (∀ w, tally w (m + 1) (limitPass (m + 1) cnt) + w m + w i = tally w (m + 1) cnt + 2 * w (i + 1)) ∧
      cnt.getD m 0 ≤ (limitPass (m + 1) cnt).getD m 0 + 1 := by
  obtain ⟨c1, hc1⟩ : ∃ c1, c1 = setAt cnt m (cnt.getD m 0 - 1) := ⟨_, rfl⟩
  have hl1 : c1.length = m + 1 := by rw [hc1, setAt_length, hl]
  have hsame : ∀ j, j < m → c1.getD j 0 = cnt.getD j 0 := fun j hj => by rw [hc1, getD_setAt, if_neg (by omega)]
  have hm : c1.getD m 0 = cnt.getD m 0 - 1 := by rw [hc1, getD_setAt, if_pos (by omega)]
  obtain ⟨hi, hpos⟩ : limitPick c1 m < m ∧ 0 < c1.getD (limitPick c1 m) 0 := limitPick_spec (by
    obtain ⟨j, hj, hp⟩ := hex
    exact ⟨j, hj, by rwa [hsame j hj]⟩)
  obtain ⟨i, hpick⟩ : ∃ i, i = limitPick c1 m := ⟨_, rfl⟩
  rw [← hpick] at hi hpos
  obtain ⟨c2, hc2⟩ : ∃ c2, c2 = setAt c1 i (c1.getD i 0 - 1) := ⟨_, rfl⟩
  have hl2 : c2.length = m + 1 := by rw [hc2, setAt_length, hl1]
  have hpass : limitPass (m + 1) cnt = setAt c2 (i + 1) (c2.getD (i + 1) 0 + 2) := by
    simp only [limitPass, Nat.add_sub_cancel, hc2, hpick, hc1]
  refine ⟨i, hi, fun w => ?_, ?_⟩
  · have t1 := tally_dec w (m := m + 1) (by omega) (by omega) hlast
    have t2 := tally_dec w (m := m + 1) (by omega) (by omega) hpos
    have t3 := tally_add_two w (m := m + 1) (i := i + 1) (cnt := c2) (by omega) (by omega)
    rw [← hc1] at t1
    rw [← hc2] at t2
    rw [hpass]
    omega
  · have h2 : c2.getD m 0 = c1.getD m 0 := by rw [hc2, getD_setAt, if_neg (by omega)]
    rw [hpass, getD_setAt]
    split
    · rename_i he
      rw [he.1]
      omega
    · omega

/-- With more than a Kraft sum of 1 and at most 2^m codes, some code is shorter than m. -/
theorem exists_short {m n k : Nat} {cnt : List Nat} (h : LimitInv (m + 1) n (k + 1) cnt) (hn : n ≤ 2 ^ (m + 1)) :
    ∃ j, j < m ∧ 0 < cnt.getD j 0 := by
  obtain ⟨-, hcount, htotal, -⟩ := h
  by_contra hno
  have hzero : ∀ i, i < m → cnt.getD i 0 = 0 := fun i hi => by
    by_contra hne
    exact hno ⟨i, hi, by omega⟩
  rw [tally_succ, tally_zero hzero] at hcount
  rw [limitTotal_eq, tally_succ, tally_zero hzero, Nat.sub_self, Nat.pow_zero] at htotal
  omega

theorem limitPass_inv {m n k : Nat} {cnt : List Nat} (hn : n ≤ 2 ^ m) (h : LimitInv m n (k + 1) cnt) :
    LimitInv m n k (limitPass m cnt) := by
  obtain _ | m := m
  · have := h.spare
    rw [List.getD_eq_default _ _ (by rw [h.length])] at this
    omega
  · have hex := exists_short h hn
    obtain ⟨hlen, hcount, htotal, hspare⟩ := h
    rw [Nat.add_sub_cancel] at hspare
    obtain ⟨i, hi, ht, hlast⟩ := tally_limitPass hlen (by omega) hex
    refine ⟨by simp [limitPass, hlen], ?_, ?_, by rw [Nat.add_sub_cancel]; omega⟩
    · have := ht fun _ => 1
      omega
    · have hdouble : 2 ^ (m + 1 - (i + 1)) = 2 * 2 ^ (m + 1 - (i + 1 + 1)) := by
        rw [show m + 1 - (i + 1) = m + 1 - (i + 1 + 1) + 1 by omega, Nat.pow_succ']
      have := ht fun i => 2 ^ (m + 1 - (i + 1))
      rw [limitTotal_eq] at htotal ⊢
      simp only [Nat.sub_self, Nat.pow_zero] at this
      omega

/-- The passes end with n codes and a Kraft sum of exactly 1. -/
theorem limitLoop_inv {m n : Nat} (hn : n ≤ 2 ^ m) (k : Nat) {cnt : List Nat} (h : LimitInv m n k cnt) :
    LimitInv m n 0 (limitLoop m k cnt) := by
  induction k generalizing cnt with
  | zero => exact h
  | succ k ih => exact ih (limitPass_inv hn h)

/-- The first counts of a tree with a leaf deeper than m. -/
theorem limitCounts_inv {m : Nat} (hm : 1 ≤ m) {ls : List Nat} (hpos : ∀ l ∈ ls, 1 ≤ l) (hdeep : ∃ l ∈ ls, m < l)
    {n : Nat} (hmn : m ≤ n) (hn : ∀ l ∈ ls, l ≤ n) (hk : kraftAt n ls = 2 ^ n) :
    LimitInv m ls.length (limitTotal m (limitCounts m ls) - 2 ^ m) (limitCounts m ls) := by
  have htotal : limitTotal m (limitCounts m ls) = (ls.map (fun l => 2 ^ (m - min l m))).sum :=
    tally_limitCounts (fun l => 2 ^ (m - l)) m ls hpos hm
  have hle := kraftAt_le_clamped hmn ls hn
  have hge := clamped_le_kraftAt hmn ls hn
  have hone : 0 < ls.countP (fun l => min l m == m) := by
    obtain ⟨l, hl, hml⟩ := hdeep
    exact List.countP_pos_iff.2 ⟨l, hl, by simp [Nat.min_eq_right (Nat.le_of_lt hml)]⟩
  have hpow : 2 ^ n = 2 ^ (n - m) * 2 ^ m := by rw [← Nat.pow_add]; congr 1; omega
  rw [← htotal, hk, hpow] at hle hge
  have hlow : 2 ^ m ≤ limitTotal m (limitCounts m ls) := Nat.le_of_mul_le_mul_left hle (Nat.two_pow_pos _)
  have hhigh : limitTotal m (limitCounts m ls) < 2 ^ m + ls.countP (fun l => min l m == m) := by
    refine Nat.lt_of_mul_lt_mul_left (a := 2 ^ (n - m)) ?_
    rw [Nat.mul_add]
    omega
  refine ⟨by simp [limitCounts], ?_, by omega, ?_⟩
  · rw [tally_limitCounts (fun _ => 1) m ls hpos hm]; simp
  · rw [limitCounts_getD (by omega), Nat.sub_add_cancel hm]
    omega

/-! ## The lengths (R259) -/

theorem orderInsert_perm (u : Nat × Nat) (us : List (Nat × Nat)) : (orderInsert u us).Perm (u :: us) := by
  induction us with
  | nil => exact .refl _
  | cons v vs ih =>
    simp only [orderInsert]
    split
    · exact .refl _
    · exact (ih.cons v).trans (.swap u v vs)

theorem order_perm (us : List (Nat × Nat)) : (us.foldr orderInsert []).Perm us := by
  induction us with
  | nil => exact .refl _
  | cons u us ih => exact (orderInsert_perm u _).trans (ih.cons u)

/-- Limit gives each used symbol a length from 1 to m, with Kraft sum 1. -/
theorem limitPairs_spec {m : Nat} (hm : 1 ≤ m) {us : List (Nat × Nat)} {ls : List Nat} (hus : us.length = ls.length)
    (hsmall : ls.length ≤ 2 ^ m) (hpos : ∀ l ∈ ls, 1 ≤ l) (hdeep : ∃ l ∈ ls, m < l) {n : Nat} (hmn : m ≤ n)
    (hn : ∀ l ∈ ls, l ≤ n) (hk : kraftAt n ls = 2 ^ n) :
    ((limitPairs m us ls).map Prod.fst).Perm (us.map Prod.fst) ∧
      (∀ l ∈ (limitPairs m us ls).map Prod.snd, 1 ≤ l ∧ l ≤ m) ∧
      kraftAt m ((limitPairs m us ls).map Prod.snd) = 2 ^ m := by
  obtain ⟨-, hcount, htotal, -⟩ := limitLoop_inv hsmall _ (limitCounts_inv hm hpos hdeep hmn hn hk)
  have hlen : ((us.foldr orderInsert []).map Prod.fst).length =
      (limitLens (limitLoop m (limitTotal m (limitCounts m ls) - 2 ^ m) (limitCounts m ls)) m).length := by
    rw [limitLens_length, hcount, List.length_map, (order_perm us).length_eq, hus]
  simp only [limitPairs]
  rw [List.map_fst_zip hlen.le, List.map_snd_zip hlen.ge]
  exact ⟨(order_perm us).map _, limitLens_bounds m _, (limitLens_sum (fun l => 2 ^ (m - l)) m _).trans htotal⟩

/-! ## HUFF_LENGTHS -/

/-- The reference meets the contract (R250). -/
theorem huffLengths_complete {freq len : List Nat} {m : Nat} (hm1 : 1 ≤ m) (hm : m ≤ 15)
    (h2 : 2 ≤ (usedFrom 0 freq).length) (hsmall : (usedFrom 0 freq).length ≤ 2 ^ m) (h : huffLengths freq m = some len) :
    CompleteLengths freq m len := by
  obtain ⟨root, hr, hp⟩ := tree_some h2
  obtain ⟨ds, hds⟩ : ∃ ds, ds = root.depths 0 := ⟨_, rfl⟩
  have hsym : (ds.map Prod.fst).Perm ((usedFrom 0 freq).map Prod.fst) := by rw [hds, HNode.depths_fst]; exact hp
  have hpos : ∀ l ∈ ds.map Prod.snd, 1 ≤ l := by
    rw [hds]
    cases root with
    | leaf s => have := hp.length_eq; simp [HNode.leaves] at this; omega
    | node a b =>
      intro l hl
      rw [HNode.depths, List.map_append, List.mem_append] at hl
      exact hl.elim (a.le_depths 1 l) (b.le_depths 1 l)
  simp only [huffLengths, if_neg (show ¬ (usedFrom 0 freq).length ≤ 1 by omega), hr, ← hds] at h
  split at h
  · rename_i hall
    obtain rfl := Option.some.inj h
    have hle : ∀ l ∈ ds.map Prod.snd, l ≤ m := fun l hl => by
      obtain ⟨p, hp, rfl⟩ := List.mem_map.1 hl
      simpa using List.all_eq_true.1 hall p hp
    refine spread_complete hm hsym (fun l hl => ⟨hpos l hl, hle l hl⟩) ?_
    rw [hds] at hle ⊢
    exact HNode.kraft_depths root 0 hle
  · rename_i hall
    obtain rfl := Option.some.inj h
    have hdeep : ∃ l ∈ ds.map Prod.snd, m < l := by
      by_contra hno
      refine hall (List.all_eq_true.2 fun p hp => decide_eq_true ?_)
      by_contra hlt
      exact hno ⟨p.2, List.mem_map_of_mem hp, by omega⟩
    have hmax : ∀ l ∈ ds.map Prod.snd, l ≤ m + (ds.map Prod.snd).sum := fun l hl =>
      (List.le_sum_of_mem hl).trans (Nat.le_add_left _ _)
    have hlen : (usedFrom 0 freq).length = (ds.map Prod.snd).length := by
      simpa using hsym.length_eq.symm
    obtain ⟨hs, hb, hk⟩ := limitPairs_spec hm1 hlen (by omega) hpos hdeep (Nat.le_add_right m _) hmax
      (by rw [hds] at hmax ⊢; exact HNode.kraft_depths root 0 hmax)
    exact spread_complete hm hs hb hk

/-- A row's lengths are taken only where they meet the contract (R250). -/
theorem conforms_complete {freq len : List Nat} {m : Nat} (h2 : 2 ≤ (usedFrom 0 freq).length)
    (h : conforms freq m len = true) :
    CompleteLengths freq m len := by
  simp only [conforms, if_pos h2, Bool.and_eq_true, beq_iff_eq, List.all_eq_true, decide_eq_true_eq] at h
  obtain ⟨⟨⟨hlen, hmax⟩, -⟩, hused, hk⟩ := h
  have hget : ∀ (l : List Nat) s, l.length ≤ s → l.getD s 0 = 0 := fun l s hs => List.getD_eq_default _ _ hs
  refine ⟨hlen, fun s => ?_, fun s => ?_, hk⟩
  · by_cases hs : s < len.length
    · rw [List.getD_eq_getElem _ _ hs]
      exact hmax _ (List.getElem_mem hs)
    · rw [hget _ _ (by omega)]
      omega
  · by_cases hs : s < len.length
    · have hs' : s < freq.length := by omega
      have hmem : (freq[s], len[s]) ∈ freq.zip len := by
        have := List.getElem_mem (l := freq.zip len) (n := s) (by simp; omega)
        rwa [List.getElem_zip] at this
      rw [List.getD_eq_getElem _ _ hs, List.getD_eq_getElem _ _ hs']
      exact (decide_eq_decide.1 (hused _ hmem)).symm
    · rw [hget _ _ (by omega), hget _ _ (by omega)]

/-- Settles O19: the tree of R256 is complete, the passes of R258 keep the number of codes and lower the Kraft sum to 1. -/
theorem lengthAssignmentIsCompleteAndLimited : Obligations.LengthAssignmentIsCompleteAndLimited := by
  unfold Obligations.LengthAssignmentIsCompleteAndLimited
  intro freq m hm1 hm h2 hsmall
  rw [← usedFrom_length 0] at h2 hsmall
  refine ⟨huffLengths_isSome freq m, fun p len h => ?_⟩
  unfold lengthsFor at h
  split at h
  · exact huffLengths_complete hm1 hm h2 hsmall h
  · split at h
    · cases h
    · split at h
      · obtain rfl := Option.some.inj h
        exact conforms_complete h2 ‹_›
      · exact huffLengths_complete hm1 hm h2 hsmall h

end Sys2Proof.Machine
end

section
/-! PROOFS. A match that the search or MATCH_FINDER gives is real (46_lz77_compressor.md R370, R381, R395). -/

namespace Sys2Proof.Machine

/-! ## The reference search (R381) -/

theorem matchRun_le (z : Lz) (k a b : Nat) : matchRun z k a b ≤ k := by
  induction k generalizing a b with
  | zero => exact Nat.le_refl 0
  | succ k ih =>
    simp only [matchRun]
    split
    · exact Nat.succ_le_succ (ih _ _)
    · exact Nat.zero_le _

/-- The bytes of a run agree. -/
theorem matchRun_eq (z : Lz) (k a b : Nat) : ∀ i, i < matchRun z k a b → winAt z (a + i) = winAt z (b + i) := by
  induction k generalizing a b with
  | zero => intro i hi; simp [matchRun] at hi
  | succ k ih =>
    intro i hi
    simp only [matchRun] at hi
    split at hi
    · cases i with
      | zero => assumption
      | succ i =>
        have := ih (a + 1) (b + 1) i (by omega)
        rwa [Nat.add_right_comm a, Nat.add_right_comm b] at this
    · omega

/-- What the walk has found: nothing beyond the bound it began with, or a longer match at x that meets R370. -/
def FoundMatch (z : Lz) (cur lim bound best : Nat) : Option Nat → Prop
  | none => best = bound
  | some x => bound < best ∧ best ≤ lim ∧ 0 < x ∧ x < cur ∧ cur - x ≤ Config.maxDist ∧
      ∀ k, k < best → winAt z (x + k) = winAt z (cur + k)

theorem FoundMatch.bound_le {z : Lz} {cur lim bound best : Nat} {st : Option Nat} (h : FoundMatch z cur lim bound best st) :
    bound ≤ best := by
  cases st with
  | none => exact Nat.le_of_eq h.symm
  | some x => exact Nat.le_of_lt h.1

theorem longestLoop_found (z : Lz) (cur lim nice bound chain cand best : Nat) (st : Option Nat) (hc : cand < cur)
    (h : FoundMatch z cur lim bound best st) :
    FoundMatch z cur lim bound (longestLoop z cur lim nice chain cand best st).1
      (longestLoop z cur lim nice chain cand best st).2 := by
  induction chain generalizing cand best st with
  | zero => exact h
  | succ chain ih =>
    simp only [longestLoop]
    split
    · exact h
    · rename_i hcand
      obtain ⟨hne, hdist⟩ := not_or.1 hcand
      have hnew : FoundMatch z cur lim bound (if best < matchRun z lim cand cur then matchRun z lim cand cur else best)
          (if best < matchRun z lim cand cur then some cand else st) := by
        split
        · have := h.bound_le
          exact ⟨by omega, matchRun_le _ _ _ _, Nat.pos_of_ne_zero hne, hc, Nat.not_lt.1 hdist, matchRun_eq _ _ _ _⟩
        · exact h
      split
      · exact hnew
      · split
        · exact hnew
        · exact ih _ _ _ (by omega) hnew

/-- A result of at least MIN_MATCH bytes was found by the walk. -/
theorem longest_found {z : Lz} {p : DeflParams} {cur cand prevLen l st : Nat} (hc : cand < cur)
    (h : longest z p cur cand prevLen = (l, st)) (hl : 3 ≤ l) :
    FoundMatch z cur (min Config.maxMatch z.lookahead) (max prevLen 2) l (some st) := by
  simp only [longest] at h
  have hloop := longestLoop_found z cur (min Config.maxMatch z.lookahead) (min p.nice z.lookahead) (max prevLen 2)
    (if p.good ≤ prevLen then p.maxChain / 4 else p.maxChain) cand _ none hc rfl
  split at h <;> rename_i hq <;> obtain ⟨rfl, rfl⟩ := Prod.mk.inj h
  · rwa [hq] at hloop
  · omega

/-! ## MATCH_FINDER (00_scope.md R11) -/

theorem finderChoice_match {s : State} {r : FindRow} {m : Nat × Nat} (h : finderChoice s = some r) (ht : r.take = some m) :
    matchOk s m.1 m.2 = true := by
  unfold finderChoice at h
  split at h
  · cases h
  · split at h
    · rename_i hn
      obtain rfl := Option.some.inj h
      rw [ht] at hn
      cases hn
    · rename_i hm
      split at h
      · obtain rfl := Option.some.inj h
        rw [ht] at hm
        obtain rfl := Option.some.inj hm
        assumption
      · cases h

/-- An element of a piece of a list. -/
theorem getD_drop_take {α : Type} (xs : List α) (a : Nat) {k l : Nat} (hk : k < l) (d : α) :
    ((xs.drop a).take l).getD k d = xs.getD (a + k) d := by
  simp [List.getD_eq_getElem?_getD, hk]

/-- The match contract (R370) in the terms of the input. -/
theorem matchOk_spec {s : State} {l d : Nat} (h : matchOk s l d = true) :
    3 ≤ l ∧ l ≤ 258 ∧ 1 ≤ d ∧ d ≤ 32768 ∧ l ≤ s.lz.lookahead ∧ d ≤ inputBefore s ∧
      inputBefore s + l ≤ s.defl.input.length ∧
      ∀ k, k < l → s.defl.input.getD (inputBefore s - d + k) 0 = s.defl.input.getD (inputBefore s + k) 0 := by
  simp only [matchOk, Bool.and_eq_true, decide_eq_true_eq, beq_iff_eq] at h
  obtain ⟨⟨⟨⟨⟨⟨⟨h3, h258⟩, h1⟩, hmax⟩, hla⟩, hd⟩, hlen⟩, heq⟩ := h
  rw [List.length_take, List.length_drop] at hlen
  refine ⟨h3, h258, h1, hmax, hla, hd, by omega, fun k hk => ?_⟩
  have := congrArg (fun xs => xs.getD k 0) heq
  simpa only [getD_drop_take _ _ hk] using this

/-- With no byte held a chosen step records the choice and moves the cursor past it. -/
theorem deflStep_match {s : State} {r : FindRow} {m : Nat × Nat} (h : finderChoice s = some r) (ht : r.take = some m)
    (ha : s.lz.matchAvail = false) :
    deflStep s = { s with
      lz := { (linkCovered m.1 r.link s.lz).advance m.1 with matchLen := 2 }
      defl := addMatch m.1 m.2 s.defl } := by
  simp [deflStep, h, stepChosen, emitHeld_none ha, ha, ht]

theorem deflStep_literal {s : State} {r : FindRow} (h : finderChoice s = some r) (ht : r.take = none)
    (ha : s.lz.matchAvail = false) :
    deflStep s = { s with
      lz := { (linkCovered 1 r.link s.lz).advance 1 with matchLen := 2 }
      defl := addLit (winAt s.lz s.lz.strStart) s.defl } := by
  simp [deflStep, h, stepChosen, emitHeld_none ha, ha, ht]

/-- Only HEAD and PREV are written. -/
theorem linkCovered_frame (n : Nat) (link : List Nat) (z : Lz) :
    linkCovered n link z = { z with head := (linkCovered n link z).head, prev := (linkCovered n link z).prev } := by
  show Lz.mk (linkCovered n link z).win _ _ (linkCovered n link z).strStart (linkCovered n link z).lookahead
    (linkCovered n link z).matchLen (linkCovered n link z).matchStart (linkCovered n link z).matchAvail = _
  simp only [linkCovered_win, linkCovered_strStart, linkCovered_lookahead, linkCovered_matchLen, linkCovered_matchStart,
    linkCovered_matchAvail]

/-- Settles O34: the walk keeps only runs of agreeing bytes, and a row's match is taken only where R370 holds. -/
theorem everyMatchFoundIsReal : Obligations.EveryMatchFoundIsReal := by
  unfold Obligations.EveryMatchFoundIsReal
  refine ⟨fun z p cur cand prevLen l st hc h hl => ?_, fun s r l d h ht => ⟨matchOk_spec (finderChoice_match h ht), fun ha => ?_⟩,
    fun s r h ht ha => ?_, linkCovered_frame⟩
  · obtain ⟨hbound, hlim, hpos, hlt, hdist, heq⟩ := longest_found hc h hl
    simp only [Config.maxMatch] at hlim
    exact ⟨by omega, by omega, by omega, hpos, hlt, hdist, heq⟩
  · rw [deflStep_match h ht ha]
    simp only [Lz.advance, linkCovered_strStart, linkCovered_lookahead, addMatch]
  · rw [deflStep_literal h ht ha]
    simp only [Lz.advance, linkCovered_strStart, linkCovered_lookahead, addLit]

end Sys2Proof.Machine
end

section
/-! PROOFS. How a command ends, said once for its two forms, and the trees, the writer, the symbols of a stream and the directory of
an archive, command by command. -/

namespace Sys2Proof.Machine

/-! ## The ends of a command (40_system_commands.md R202) -/

theorem finish_of {f : State → Res} {s : State} {r : Res} (h : f (begun s) = r) : finish f s = .next (settle r) := by
  rw [finish, h]

theorem finish_ok {f : State → Res} {s t : State} (h : f (begun s) = .ok t) : finish f s = .next (complete t) := by
  rw [finish, h, settle_ok]

theorem finish_hold {f : State → Res} {s t : State} {w : Wait} (h : f (begun s) = .hold w t) :
    finish f s = .next { t with wait := w } := by
  rw [finish, h, settle_hold]

theorem launch_ok {f : State → Res} {s t : State} (h : f (begun s) = .ok t) : launch f s = .next (run t) := by
  rw [launch, h]

/-- A refusal finds the state as the command began. -/
theorem finish_refuse {f : State → Res} {s : State} {e : Err} {opc : Nat} (h : f (begun s) = refuse e opc (begun s)) :
    finish f s = .next (raiseErr e (toWord opc) s) := by
  rw [finish, h]
  rfl

/-- What a counted command does where its bytes are not all there (30_encoding.md R146): after its other checks it is one guard and
TakeCounted. -/
theorem countedRefusals_finish {i : Instr} {f : State → Res} {g : Bytes → State → Res} {opc k : Nat} {s : State}
    (he : exec i s = finish f s)
    (hf : f (begun s) = guardErr (overInCap s k) .badArg opc (begun s) (takeCounted opc k (begun s) g)) :
    CountedRefusals i (toWord opc) k s := by
  refine ⟨fun h => ?_, fun h hk hend => ?_, fun h hk hend => ?_⟩ <;> rw [he] <;> rw [h] at hf
  · exact finish_refuse hf
  · rw [guardErr_false, takeCounted_short (s := begun s) hk hend] at hf
    exact finish_refuse hf
  · rw [guardErr_false, takeCounted_hold (s := begun s) hk hend] at hf
    exact finish_hold hf

/-! ## The trees (43_huffman_encoder.md R253, R254) -/

theorem selOf_none {t : BitVec 8} (h : 2 < t.toNat) : selOf t = none := by
  unfold selOf
  split
  case h_4 => rfl
  all_goals omega

theorem hencPrologue_some {opc : Nat} {t : BitVec 8} {s : State} {f : Sel → Res} {k : Sel} (ht : selOf t = some k)
    (ha : s.defl.phase.active = false) : hencPrologue opc t s f = f k := by
  simp [hencPrologue, ha, ht]

theorem hencPrologue_none {opc : Nat} {t : BitVec 8} {s : State} {f : Sel → Res} (ht : selOf t = none)
    (ha : s.defl.phase.active = false) : hencPrologue opc t s f = refuse .badArg opc s := by
  simp [hencPrologue, ha, ht]

@[simp] theorem getTree_begun (s : State) (k : Sel) : getTree (begun s) k = getTree s k := by cases k <;> rfl

theorem complete_setTree_begun (s : State) (k : Sel) (h : HTree) :
    complete (setTree (begun s) k h) = complete (setTree s k h) := by cases k <;> rfl

theorem complete_setRes_setTree_begun (s : State) (k : Sel) (h : HTree) (w : Word) :
    complete (setRes [(0, w)] (setTree (begun s) k h)) =
      complete { setTree s k h with res := { s.res with r0 := w } } := by cases k <;> rfl

theorem exec_hencBuildTree_some {s : State} {t : BitVec 8} {k : Sel} {len : List Nat} (ht : selOf t = some k)
    (ha : s.defl.phase.active = false)
    (hl : lengthsFor s.params ((getTree s k).freq.map BitVec.toNat) k.maxLen = some len) :
    exec (.hencBuildTree t) s = .next (complete { setTree s k { getTree s k with
      len := len, blCount := blCounts len, tBuilt := true, cBuilt := false } with
      res := { s.res with r0 := toWord (maxLenOf len) } }) := by
  rw [← complete_setRes_setTree_begun]
  show execHencBuildTree t s = _
  refine finish_ok ?_
  simp only [hencPrologue_some ht (s := begun s) ha, getTree_begun, begun_params, hl]

theorem exec_hencBuildTree_none {s : State} {t : BitVec 8} {k : Sel} (ht : selOf t = some k)
    (ha : s.defl.phase.active = false)
    (hl : lengthsFor s.params ((getTree s k).freq.map BitVec.toNat) k.maxLen = none) :
    exec (.hencBuildTree t) s = .next (raiseErr .heapInvariant 0x32 s) := by
  show execHencBuildTree t s = _
  refine finish_refuse ?_
  simp only [hencPrologue_some ht (s := begun s) ha, getTree_begun, begun_params, hl]

theorem exec_hencBuildCodes_built {s : State} {t : BitVec 8} {k : Sel} (ht : selOf t = some k)
    (ha : s.defl.phase.active = false) (hb : (getTree s k).tBuilt = true) :
    exec (.hencBuildCodes t) s = .next (complete (setTree s k { getTree s k with
      code := revCodes (getTree s k).len, cBuilt := true })) := by
  rw [← complete_setTree_begun]
  show execHencBuildCodes t s = _
  refine finish_ok ?_
  simp only [hencPrologue_some ht (s := begun s) ha, getTree_begun, hb, Bool.not_true, guardErr_false]

theorem exec_hencBuildCodes_unbuilt {s : State} {t : BitVec 8} {k : Sel} (ht : selOf t = some k)
    (ha : s.defl.phase.active = false) (hb : (getTree s k).tBuilt = false) :
    exec (.hencBuildCodes t) s = .next (raiseErr .notBuilt 0x33 s) := by
  show execHencBuildCodes t s = _
  refine finish_refuse ?_
  simp only [hencPrologue_some ht (s := begun s) ha, getTree_begun, hb, Bool.not_false, guardErr_true]

/-- Settles O17: each build on each answer of HUFF_LENGTHS and TBUILT, the reference answering always. -/
theorem encoderBuildsTreesAndCodes : Obligations.EncoderBuildsTreesAndCodes := by
  unfold Obligations.EncoderBuildsTreesAndCodes
  refine ⟨fun s t k ht ha => ⟨fun len hl => exec_hencBuildTree_some ht ha hl, exec_hencBuildTree_none ht ha, fun hp => ?_,
    exec_hencBuildCodes_built ht ha, exec_hencBuildCodes_unbuilt ht ha⟩, fun s t ht ha => ?_⟩
  · obtain ⟨len, hl⟩ := Option.isSome_iff_exists.1 (huffLengths_isSome ((getTree s k).freq.map BitVec.toNat) k.maxLen)
    exact ⟨len, hl, by rw [lengthsFor_default hp, hl]⟩
  · constructor
    · show execHencBuildTree t s = _
      exact finish_refuse (hencPrologue_none (s := begun s) (selOf_none ht) ha)
    · show execHencBuildCodes t s = _
      exact finish_refuse (hencPrologue_none (s := begun s) (selOf_none ht) ha)

/-! ## The writer (45_bitstream.md R327-R334) -/

theorem deflFree_ok {opc : Nat} {s : State} (ha : s.defl.phase.active = false) (r : Res) : deflFree opc s r = r := by
  simp [deflFree, ha]

theorem finish_deflFree {opc : Nat} {s : State} (ha : s.defl.phase.active = false) {r : State → Res} :
    finish (fun s => deflFree opc s (r s)) s = .next (settle (r (begun s))) := by
  rw [finish, deflFree_ok (s := begun s) ha]

theorem runFlush_host_room {s : State} (h : outRoom s s.bw.pending.length = s.bw.pending.length) :
    runFlush .host s = .ok { s with outq := s.outq ++ s.bw.pending, bw := { s.bw with pending := [] } } := by
  simp [runFlush, h]

/-- One task, then the results, and the command is complete. -/
theorem run_then_res {s s' : State} {t : Task} {ws : List (Nat × Word)} (h : s.tasks = [t, .res ws])
    (hr : runTask t s = .ok s') (h' : s'.tasks = [.res ws]) : run s = complete (setRes ws s') := by
  rw [run_eq, drive_ok h hr, drive_ok (t := .res ws) h' rfl, drive_nil (by simp [h'])]
  rfl

theorem runFlush_host_full {s : State} {k : Nat} (h : outRoom s s.bw.pending.length = k) (hk : k < s.bw.pending.length) :
    runFlush .host s = .hold .outSpace { s with
      outq := s.outq ++ s.bw.pending.take k
      bw := { s.bw with pending := s.bw.pending.drop k }
      tasks := .flush .host :: s.tasks } := by
  simp [runFlush, h, hk]

/-- An OUT with room for only c - |OUT| of n bytes. -/
theorem outRoom_partial {s : State} {c n : Nat} (hc : s.params.outCap = some c) (h : c < s.outq.length + n) (hn : 0 < n) :
    outRoom s n = c - s.outq.length ∧ c - s.outq.length < n := by
  simp only [outRoom, hc]
  omega

theorem run_flush_room {s : State} {ws : List (Nat × Word)} (h : outRoom s s.bw.pending.length = s.bw.pending.length) :
    run { s with tasks := [.flush .host, .res ws] } = complete (setRes ws
      { s with outq := s.outq ++ s.bw.pending, bw := { s.bw with pending := [] } }) := by
  have hflush : runTask (.flush .host) { s with tasks := [.flush .host, .res ws] } = .ok { s with
      outq := s.outq ++ s.bw.pending, bw := { s.bw with pending := [] }, tasks := [.res ws] } :=
    runFlush_host_room (s := { s with tasks := [.res ws] }) h
  rw [run_then_res rfl hflush rfl]
  rfl

theorem run_flush_full {s : State} {ws : List (Nat × Word)} {k : Nat} (h : outRoom s s.bw.pending.length = k)
    (hk : k < s.bw.pending.length) :
    run { s with tasks := [.flush .host, .res ws] } = { s with
      outq := s.outq ++ s.bw.pending.take k
      bw := { s.bw with pending := s.bw.pending.drop k }
      wait := .outSpace
      tasks := [.flush .host, .res ws] } := by
  have hflush : runTask (.flush .host) { s with tasks := [.flush .host, .res ws] } = .hold .outSpace { s with
      outq := s.outq ++ s.bw.pending.take k
      bw := { s.bw with pending := s.bw.pending.drop k }
      tasks := [.flush .host, .res ws] } := runFlush_host_full (s := { s with tasks := [.res ws] }) h hk
  rw [run_eq, drive_hold rfl hflush]

theorem run_push_room {s : State} {bs : Bytes} {ws : List (Nat × Word)} (h : outRoom s bs.length = bs.length) :
    run { s with tasks := [.push bs, .res ws] } = complete (setRes ws { s with outq := s.outq ++ bs }) := by
  have hpush : runTask (.push bs) { s with tasks := [.push bs, .res ws] } =
      .ok { s with outq := s.outq ++ bs, tasks := [.res ws] } := outPush_room (s := { s with tasks := [.res ws] }) h
  rw [run_then_res rfl hpush rfl]
  rfl

theorem exec_bwFlush {s : State} (ha : s.defl.phase.active = false) :
    exec .bwFlush s = .next (run { s with tasks := [.flush .host, .res [(0, toWord s.bw.pending.length)]] }) :=
  launch_ok (f := fun s => deflFree 0x57 s (.ok { s with tasks := [.flush .host, .res [(0, toWord s.bw.pending.length)]] }))
    (deflFree_ok (s := begun s) ha _)

/-- Settles O27: BW_FLUSH runs its two tasks or holds in the first. -/
theorem writerFlushResetAndStatus : Obligations.WriterFlushResetAndStatus := by
  unfold Obligations.WriterFlushResetAndStatus
  refine fun s ha => ⟨fun hroom => ?_, fun c hc hfull hne => ?_, ?_, ?_⟩
  · rw [exec_bwFlush ha, run_flush_room hroom]
    rfl
  · obtain ⟨hk, hlt⟩ := outRoom_partial hc hfull (List.length_pos_of_ne_nil hne)
    rw [exec_bwFlush ha, run_flush_full hk hlt]
    rfl
  · show execBwReset s = _
    rw [execBwReset, finish_deflFree ha]
    rfl
  · show execBwStatus s = _
    rw [execBwStatus, finish_deflFree ha]
    rfl

/-! ## Literals and the end of a block (47_deflate_decompressor.md R453, R459, R462) -/

/-- The byte in OWIN, counted in INFL_TOTAL and INFL_ADLER. -/
def outputCounted (b : Byte) (s : State) : State :=
  { s with infl := { s.infl with
    owin := cellSet 0 s.infl.owin s.infl.owpos.toNat b
    owpos := s.infl.owpos + 1
    total := s.infl.total + 1
    adler := adler s.infl.adler [b] } }

/-- The byte in DBUF. -/
def dbufPush (b : Byte) (s : State) : State := { s with zip := { s.zip with dbuf := s.zip.dbuf ++ [b] } }

theorem output_input {b : Byte} {s : State} (h : s.infl.src = .input) : output b s = outPush [b] (outputCounted b s) := by
  simp only [output, h, outputCounted]

theorem output_entry {b : Byte} {s : State} {i : Nat} {push : Bool} {rest : Bytes} (h : s.infl.src = .entry i push rest) :
    output b s = if push then outPush [b] (dbufPush b (outputCounted b s)) else .ok (dbufPush b (outputCounted b s)) := by
  simp only [output, h, outputCounted, dbufPush]

theorem exec_lit (b : Byte) (s : State) : exec (.lit b) s = finishWire (output b (setCont .none s)) := rfl

theorem exec_eob (s : State) : exec .eob s = .next (endOfBlock s) := rfl

theorem finishWire_push_room {b : Byte} {s : State} (h : outRoom s 1 = 1) :
    finishWire (outPush [b] s) = .next { s with outq := s.outq ++ [b] } := by
  rw [outPush_room (bs := [b]) h]
  rfl

theorem finishWire_push_full {b : Byte} {s : State} (h : outRoom s 1 = 0) :
    finishWire (outPush [b] s) = .next { s with wait := .outSpace, tasks := .push [b] :: s.tasks } := by
  rw [outPush_full h]
  rfl

/-- Settles O41: Output by source and room, EndOfBlock by BFINAL and NOWRAP. -/
theorem literalAndEndOfBlock : Obligations.LiteralAndEndOfBlock := by
  unfold Obligations.LiteralAndEndOfBlock
  refine ⟨fun s b => ⟨fun hs hr => ?_, fun hs hr => ?_, fun i rest hs => ?_, fun i rest hs hr => ?_, fun i rest hs hr => ?_⟩,
    fun s => ⟨fun hf => ?_, fun hf hn => ?_, fun hf hn => ?_⟩⟩
  · rw [exec_lit, output_input (s := setCont .none s) hs]
    exact finishWire_push_room hr
  · rw [exec_lit, output_input (s := setCont .none s) hs]
    exact finishWire_push_full hr
  · rw [exec_lit, output_entry (s := setCont .none s) hs]
    rfl
  · rw [exec_lit, output_entry (s := setCont .none s) hs, if_pos rfl]
    exact finishWire_push_room hr
  · rw [exec_lit, output_entry (s := setCont .none s) hs, if_pos rfl]
    exact finishWire_push_full hr
  · rw [exec_eob]
    simp [endOfBlock, setInflPhase, hf]
  · rw [exec_eob]
    simp [endOfBlock, setInflPhase, hf, hn]
  · rw [exec_eob]
    simp [endOfBlock, setInflPhase, hf, hn]

/-! ## Adding entries (48_zip_container.md R502-R504, R513, R514) -/

theorem zipOpened_ok {opc : Nat} {s : State} (h : s.zip.isOpen = true) (r : Res) : zipOpened opc s r = r := by
  simp [zipOpened, h]

theorem addEntry_new {opc : Nat} {e : Entry} {s : State} (h : hasName s.zip.entries e.name = false) :
    addEntry opc e s = .ok (setRes [(0, toWord s.zip.entries.length)]
      { s with zip := { s.zip with entries := s.zip.entries ++ [e] } }) := by
  simp [addEntry, h]

theorem addEntry_dup {opc : Nat} {e : Entry} {s : State} (h : hasName s.zip.entries e.name = true) :
    addEntry opc e s = refuse .dupName opc s := by
  simp [addEntry, h]

/-- What ZIP_ADD_ITEM and ZIP_ADD_FILE do with their bytes. -/
def addTaken (opc n m : Nat) (b : Bytes) (s : State) : Res :=
  match nameNorm s.params (b.take n) with
  | none => refuse .illegalName opc s
  | some name => addEntry opc (newEntry s name s.lat.r2 m (b.drop n)) s

/-- The checks of ZIP_ADD_ITEM and ZIP_ADD_FILE passed but for the bytes. -/
theorem addItem_checked {s : State} (opc : Nat) (ho : s.zip.isOpen = true) (hn : s.lat.r0.toNat ≤ 65535)
    (hm : s.lat.r3 = 0 ∨ s.lat.r3 = 8) :
    addItem opc s = guardErr (overInCap s (s.lat.r0.toNat + s.lat.r1.toNat)) .badArg opc s
      (takeCounted opc (s.lat.r0.toNat + s.lat.r1.toNat) s (addTaken opc s.lat.r0.toNat s.lat.r3.toNat)) := by
  have hb : (decide (65535 < s.lat.r0.toNat) || (s.lat.r3.toNat != 0 && s.lat.r3.toNat != 8)) = false := by
    rcases hm with h | h <;> simp [h, hn]
  unfold addItem
  rw [zipOpened_ok ho]
  simp only [argNat, Regs4.get, hb, Bool.false_or]
  rfl

/-- What ZIP_ADD_DIR does with its bytes. -/
def addDirTaken (b : Bytes) (s : State) : Res :=
  match nameNorm s.params b with
  | none => refuse .illegalName 0xA4 s
  | some name =>
    let name := if name.getLast? = some 0x2F then name else name ++ [0x2F]
    guardErr (decide (65535 < name.length)) .illegalName 0xA4 s <| addEntry 0xA4 (newEntry s name s.lat.r2 0 []) s

/-- ZIP_ADD_DIR's pseudocode. -/
def addDir (s : State) : Res :=
  zipOpened 0xA4 s <|
  guardErr (decide (65535 < argNat s 0) || argNat s 1 != 0 || overInCap s (argNat s 0)) .badArg 0xA4 s <|
  takeCounted 0xA4 (argNat s 0) s addDirTaken

/-- A directory's name: its own, with a '/' at its end (R504). -/
def dirName (raw : Bytes) : Bytes := if raw.getLast? = some 0x2F then raw else raw ++ [0x2F]

theorem addDirTaken_named {b raw : Bytes} {s : State} (h : nameNorm s.params b = some raw) (hl : (dirName raw).length ≤ 65535) :
    addDirTaken b s = addEntry 0xA4 (newEntry s (dirName raw) s.lat.r2 0 []) s := by
  simp only [addDirTaken, h]
  exact congrArg (fun x => guardErr x .illegalName 0xA4 s _) (decide_eq_false (Nat.not_lt.2 hl))

theorem addDirTaken_long {b raw : Bytes} {s : State} (h : nameNorm s.params b = some raw) (hl : 65535 < (dirName raw).length) :
    addDirTaken b s = refuse .illegalName 0xA4 s := by
  simp only [addDirTaken, h]
  exact congrArg (fun x => guardErr x .illegalName 0xA4 s _) (decide_eq_true hl)

theorem addDirTaken_illegal {b : Bytes} {s : State} (h : nameNorm s.params b = none) :
    addDirTaken b s = refuse .illegalName 0xA4 s := by
  simp only [addDirTaken, h]

theorem exec_zipAddDir (s : State) : exec .zipAddDir s = finish addDir s := rfl

theorem addDir_checked {s : State} (ho : s.zip.isOpen = true) (hn : s.lat.r0.toNat ≤ 65535) (hd : s.lat.r1 = 0) :
    addDir s = guardErr (overInCap s s.lat.r0.toNat) .badArg 0xA4 s
      (takeCounted 0xA4 s.lat.r0.toNat s addDirTaken) := by
  have hb : (decide (65535 < s.lat.r0.toNat) || s.lat.r1.toNat != 0) = false := by simp [hd, hn]
  unfold addDir
  rw [zipOpened_ok ho]
  simp only [argNat, Regs4.get, hb, Bool.false_or]

/-- A counted command whose bytes are there. -/
theorem counted_enough {b : Bool} {opc k : Nat} {s : State} {g : Bytes → State → Res} {r : Res}
    (hr : r = guardErr b .badArg opc s (takeCounted opc k s g)) (hb : b = false) (hk : k ≤ s.inq.length) :
    r = g (s.inq.take k) { s with inq := s.inq.drop k } := by
  rw [hr, hb, guardErr_false, takeCounted_enough hk]

/-- NameNorm in the terms of R513. -/
theorem nameNorm_some {p : Params} {raw : Bytes} (h1 : slashes (nameHook p raw) ≠ [])
    (h2 : (slashes (nameHook p raw)).length ≤ 65535) (h3 : (0x3A : Byte) ∉ slashes (nameHook p raw)) :
    nameNorm p raw = some (slashes (nameHook p raw)) :=
  if_neg (by simp only [not_or, Nat.not_lt]; exact ⟨h1, h2, h3⟩)

theorem nameNorm_none {p : Params} {raw : Bytes} (h : slashes (nameHook p raw) = [] ∨
    65535 < (slashes (nameHook p raw)).length ∨ (0x3A : Byte) ∈ slashes (nameHook p raw)) : nameNorm p raw = none := if_pos h

section AddItem

variable {s : State} (opc : Nat) (ho : s.zip.isOpen = true) (hn : s.lat.r0.toNat ≤ 65535)
  (hm : s.lat.r3 = 0 ∨ s.lat.r3 = 8)

include ho hn hm

theorem addItem_refusals {i : Instr} (he : exec i s = finish (addItem opc) s) :
    CountedRefusals i (toWord opc) (s.lat.r0.toNat + s.lat.r1.toNat) s :=
  countedRefusals_finish he (addItem_checked (s := begun s) opc ho hn hm)

variable (hc : overInCap s (s.lat.r0.toNat + s.lat.r1.toNat) = false)
  (hk : s.lat.r0.toNat + s.lat.r1.toNat ≤ s.inq.length)

include hc hk

theorem addItem_taken : addItem opc (begun s) = addTaken opc s.lat.r0.toNat s.lat.r3.toNat
    (s.inq.take (s.lat.r0.toNat + s.lat.r1.toNat))
    { begun s with inq := s.inq.drop (s.lat.r0.toNat + s.lat.r1.toNat) } :=
  counted_enough (addItem_checked (s := begun s) opc ho hn hm) hc hk

/-- The name's bytes are the first of the bytes taken. -/
theorem addItem_named : addItem opc (begun s) =
    match nameNorm s.params (s.inq.take s.lat.r0.toNat) with
    | none => refuse .illegalName opc { begun s with inq := s.inq.drop (s.lat.r0.toNat + s.lat.r1.toNat) }
    | some name =>
      addEntry opc (newEntry s name s.lat.r2 s.lat.r3.toNat
        ((s.inq.take (s.lat.r0.toNat + s.lat.r1.toNat)).drop s.lat.r0.toNat))
        { begun s with inq := s.inq.drop (s.lat.r0.toNat + s.lat.r1.toNat) } := by
  rw [addItem_taken opc ho hn hm hc hk]
  unfold addTaken
  rw [List.take_take, Nat.min_eq_left (Nat.le_add_right _ _)]
  rfl

end AddItem

/-- Settles O47: each check in its order, the name by NAME_HOOK, the entry by its name. -/
theorem addingAnEntry : Obligations.AddingAnEntry := by
  unfold Obligations.AddingAnEntry
  refine ⟨fun s name ho hn hm => ⟨⟨addItem_refusals 0xA2 ho hn hm rfl, addItem_refusals 0xA3 ho hn hm rfl⟩, fun hc hk => ?_⟩,
    fun s raw ho hn hd => ⟨countedRefusals_finish (exec_zipAddDir s) (addDir_checked (s := begun s) ho hn hd), fun hc hk => ?_⟩,
    fun p raw => ⟨nameNorm_some, nameNorm_none, fun hp => nameHook_default hp raw⟩⟩
  · have named := fun opc => addItem_named opc ho hn hm hc hk
    refine ⟨fun hname hnew => ?_, fun hname hdup => ?_, fun hname => ?_⟩ <;> simp only [hname] at named
    · have added := fun opc => (named opc).trans (addEntry_new (e := newEntry s name _ _ _) hnew)
      exact ⟨(finish_of (added 0xA2)).trans rfl, (finish_of (added 0xA3)).trans rfl⟩
    · have refused := fun opc => (named opc).trans (addEntry_dup (e := newEntry s name _ _ _) hdup)
      exact ⟨(finish_of (refused 0xA2)).trans rfl, (finish_of (refused 0xA3)).trans rfl⟩
    · exact ⟨(finish_of (named 0xA2)).trans rfl, (finish_of (named 0xA3)).trans rfl⟩
  · have taken := counted_enough (addDir_checked (s := begun s) ho hn hd) hc hk
    refine ⟨fun hname hlen hnew => ?_, fun hname hlen hdup => ?_, fun hname hlen => ?_, fun hname => ?_⟩
    · have named := taken.trans (addDirTaken_named hname hlen)
      exact (finish_of (named.trans (addEntry_new hnew))).trans rfl
    · have named := taken.trans (addDirTaken_named hname hlen)
      exact (finish_of (named.trans (addEntry_dup hdup))).trans rfl
    · exact (finish_of (taken.trans (addDirTaken_long hname hlen))).trans rfl
    · exact (finish_of (taken.trans (addDirTaken_illegal hname))).trans rfl

/-! ## Reading the directory (48_zip_container.md R507-R509) -/

theorem zipItem_some {opc i : Nat} {s : State} {e : Entry} (h : s.zip.entries[i]? = some e) (f : Entry → Res) :
    zipItem opc i s f = f e := by
  simp [zipItem, h]

/-- The search gives the first entry of the name. -/
theorem findName_first {n : Bytes} {es : List Entry} {i : Nat} (base : Nat) (h : ∃ e, es[i]? = some e ∧ e.name = n)
    (hfirst : ∀ j e, j < i → es[j]? = some e → e.name ≠ n) : findName n base es = some (base + i) := by
  induction es generalizing base i with
  | nil => obtain ⟨e, he, -⟩ := h; simp at he
  | cons x xs ih =>
    cases i with
    | zero =>
      obtain ⟨e, he, hn⟩ := h
      obtain rfl := Option.some.inj he
      simp [findName, hn]
    | succ i =>
      have hx : x.name ≠ n := hfirst 0 x (by omega) rfl
      rw [findName, if_neg hx, ih (base + 1) h fun j e hj => hfirst (j + 1) e (by omega)]
      congr 1
      omega

theorem findName_none {n : Bytes} {es : List Entry} (base : Nat) (h : ∀ e ∈ es, e.name ≠ n) : findName n base es = none := by
  induction es generalizing base with
  | nil => rfl
  | cons x xs ih => rw [findName, if_neg (h x (by simp)), ih (base + 1) fun e he => h e (by simp [he])]

/-- RES0 of ZIP_FIND (R507). -/
def findResult (b : Bytes) (s : State) : Word :=
  match findName (slashes (nameHook s.params b)) 0 s.zip.entries with
  | some i => toWord i
  | none => 0xFFFFFFFF

/-- ZIP_FIND's pseudocode. -/
def zipFindBody (s : State) : Res :=
  zipOpened 0xA7 s <|
  guardErr (decide (65535 < argNat s 0) || overInCap s (argNat s 0)) .badArg 0xA7 s <|
  takeCounted 0xA7 (argNat s 0) s fun b s => .ok (setRes [(0, findResult b s)] s)

theorem exec_zipFind (s : State) : exec .zipFind s = finish zipFindBody s := rfl

theorem zipFind_checked {s : State} (ho : s.zip.isOpen = true) (hn : s.lat.r0.toNat ≤ 65535) :
    zipFindBody s = guardErr (overInCap s s.lat.r0.toNat) .badArg 0xA7 s
      (takeCounted 0xA7 s.lat.r0.toNat s fun b s => .ok (setRes [(0, findResult b s)] s)) := by
  unfold zipFindBody
  rw [zipOpened_ok ho]
  simp only [argNat, Regs4.get, decide_eq_false (Nat.not_lt.2 hn), Bool.false_or]

/-- With the bytes there, ZIP_FIND completes with its result. -/
theorem exec_zipFind_enough {s : State} (ho : s.zip.isOpen = true) (hn : s.lat.r0.toNat ≤ 65535)
    (hc : overInCap s s.lat.r0.toNat = false) (hk : s.lat.r0.toNat ≤ s.inq.length) :
    exec .zipFind s = .next (complete { s with
      inq := s.inq.drop s.lat.r0.toNat, res := { s.res with r0 := findResult (s.inq.take s.lat.r0.toNat) s } }) := by
  rw [exec_zipFind]
  exact (finish_of (counted_enough (zipFind_checked (s := begun s) ho hn) hc hk)).trans rfl

/-- The words of ZIP_ITEM_INFO (R509). -/
def itemInfo (e : Entry) (sel : Nat) (s : State) : Res :=
  if sel = 0 then
    .ok (setRes [(0, e.usize), (1, e.csize), (2, e.crc), (3, toWord (e.method ||| e.pcomp.toNat * 256))] s)
  else .ok (setRes [(0, e.extAttr), (1, e.loff), (2, toWord e.name.length), (3, toWord e.level)] s)

theorem exec_zipItemInfo {s : State} {e : Entry} (ho : s.zip.isOpen = true) (he : s.zip.entries[s.lat.r0.toNat]? = some e) :
    exec .zipItemInfo s = .next (settle
      (guardErr (decide (1 < s.lat.r1.toNat)) .badArg 0xA9 (begun s) (itemInfo e s.lat.r1.toNat (begun s)))) := by
  show execZipItemInfo s = _
  rw [execZipItemInfo, finish, zipOpened_ok (s := begun s) ho, zipItem_some (s := begun s) (i := argNat (begun s) 0) he]
  rfl

theorem exec_zipItemName {s : State} {e : Entry} (ho : s.zip.isOpen = true) (he : s.zip.entries[s.lat.r0.toNat]? = some e) :
    exec .zipItemName s = .next (run { s with tasks := [.push e.name, .res [(0, toWord e.name.length)]] }) := by
  show execZipItemName s = _
  rw [execZipItemName, launch, zipOpened_ok (s := begun s) ho, zipItem_some (s := begun s) (i := argNat (begun s) 0) he]
  rfl

/-- Settles O49: the first entry of the normalised name, and an entry's fields by the selector. -/
theorem readingTheDirectory : Obligations.ReadingTheDirectory := by
  unfold Obligations.ReadingTheDirectory
  refine ⟨fun s ho hn => ⟨countedRefusals_finish (exec_zipFind s) (zipFind_checked (s := begun s) ho hn), fun hc hk =>
    ⟨fun i hi hfirst => ?_, fun hno => ?_⟩⟩, fun s e ho he => ⟨fun h0 => ?_, fun h1 => ?_, fun hbad => ?_, fun hroom => ?_⟩⟩
  · have hr : findResult (s.inq.take s.lat.r0.toNat) s = toWord i := by
      rw [findResult, slashes, findName_first 0 hi hfirst, Nat.zero_add]
    rw [exec_zipFind_enough ho hn hc hk, hr]
    rfl
  · have hr : findResult (s.inq.take s.lat.r0.toNat) s = 0xFFFFFFFF := by
      rw [findResult, slashes, findName_none 0 hno]
    rw [exec_zipFind_enough ho hn hc hk, hr]
  · rw [exec_zipItemInfo ho he, h0]
    have hpcomp : (if e.pcomp = true then 256 else 0) = e.pcomp.toNat * 256 := by cases e.pcomp <;> rfl
    rw [hpcomp]
    rfl
  · rw [exec_zipItemInfo ho he, h1]
    rfl
  · rw [exec_zipItemInfo ho he, decide_eq_true hbad]
    rfl
  · rw [exec_zipItemName ho he, run_push_room hroom]
    rfl

end Sys2Proof.Machine
end

section
/-! PROOFS. What a piece of work can do to the memories, the reader and the entries (10_state.md R51, R54, R72, R88, R91), said once:
`Move` lists every single change, and every operation, wire symbol and task is shown to make no other: a property of the view that
each move keeps (`Stable`) holds at every ending of it. -/

namespace Sys2Proof.Machine

/-! ## What the invariants see of the state -/

/-- The elements that the four invariants speak of, apart from the frame of a command: BUSY, the window with its chains, the
decompressor's window, the reader, and the four lists of entries. -/
structure View where
  busy : Bool
  win : List Host.Cell
  head : List (Nat × Nat)
  prev : List (Nat × Nat)
  owin : List Host.Cell
  br : Br
  entries : List Entry
  list : List Entry
  recs : List (Entry × Nat)
  work : List Entry

/-- The view of a state. -/
def State.view (s : State) : View :=
  ⟨s.busy, s.lz.win, s.lz.head, s.lz.prev, s.infl.owin, s.br, s.zip.entries, s.zip.list, s.zip.recs, s.zip.work⟩

/-- The window and its chains replaced. -/
def View.withLz (v : View) (z : Lz) : View := { v with win := z.win, head := z.head, prev := z.prev }

/-- The reader as a bit source leaves it. -/
def View.withBr (v : View) (b : BitSrc) : View := { v with br := ⟨b.acc, b.n⟩ }

/-- Every single change that a piece of work can make to what the invariants see. -/
inductive Move (v : View) : View → Prop
  /-- Refill(L) from any bytes (45_bitstream.md R340); no read asks for more than 24 bits. -/
  | refill {l : Nat} (hl : l ≤ 24) (bs : Bytes) (pops : Nat) : Move v (v.withBr (refillLoop l v.br.acc v.br.n pops bs))
  /-- Bits leave the reader. -/
  | drop (k : Nat) : Move v { v with br := ⟨v.br.acc >>> k, v.br.n - k⟩ }
  /-- The reader is reset (R349, R450). -/
  | clearReader : Move v { v with br := Br.reset }
  /-- Bytes are loaded into WIN (46_lz77_compressor.md R377). -/
  | load (k : Nat) (bs : Bytes) : Move v { v with win := cellPut v.win k bs }
  /-- Insert (R380). -/
  | insert (i j x y : Nat) : Move v { v with prev := cellSet 0 v.prev i x, head := cellSet 0 v.head j y }
  /-- Slide (R378). -/
  | slide : Move v { v with win := slideWin v.win, head := slideChain v.head, prev := slideChain v.prev }
  /-- HEAD and PREV are cleared (R372). -/
  | clearChains : Move v { v with head := [], prev := [] }
  /-- A byte enters OWIN (47_deflate_decompressor.md R462). -/
  | output (k : Nat) (b : Byte) : Move v { v with owin := cellSet 0 v.owin k b }
  /-- The archive is emptied (48_zip_container.md R501, R511, R520). -/
  | clearEntries : Move v { v with entries := [] }
  /-- An entry with a new name is appended (R502). -/
  | addEntry {e : Entry} (h : hasName v.entries e.name = false) : Move v { v with entries := v.entries ++ [e] }
  /-- An entry is replaced by one of the same name (R505, R510, R531). -/
  | putEntry {i : Nat} {e e' : Entry} (h : v.entries[i]? = some e) (hn : e'.name = e.name) :
      Move v { v with entries := setAt v.entries i e' }
  /-- An entry is removed (R506). -/
  | removeEntry (i : Nat) : Move v { v with entries := v.entries.eraseIdx i }
  /-- The list of ZIP_OPEN begins (R520). -/
  | clearList : Move v { v with list := [] }
  /-- An entry with a new name joins the list of ZIP_OPEN (R522). -/
  | addList {e : Entry} (h : hasName v.list e.name = false) : Move v { v with list := v.list ++ [e] }
  /-- The list of ZIP_OPEN becomes the archive (R520). -/
  | opened : Move v { v with entries := v.list, list := [] }
  /-- The transient lists are dropped (60_exceptions.md R610). -/
  | dropLists : Move v { v with list := [], recs := [], work := [] }
  /-- ZIP_SAVE begins with a copy of every entry (R540). -/
  | startSave : Move v { v with recs := [], work := v.entries }
  /-- The copy being written is decoded: it keeps its name (R531). -/
  | decodeCopy {e e' : Entry} {es : List Entry} (h : v.work = e :: es) (hn : e'.name = e.name) :
      Move v { v with work := e' :: es }
  /-- The copy at the head is written and recorded (R542). -/
  | writeCopy {e e' : Entry} {es : List Entry} (m : Nat) (h : v.work = e :: es) (hn : e'.name = e.name) :
      Move v { v with recs := v.recs ++ [(e', m)], work := es }
  /-- The records become the archive, all copies written (R545). -/
  | saved (h : v.work = []) : Move v { v with entries := v.recs.map Prod.fst, recs := [], work := [] }

/-- A property of the view that every move keeps. -/
def Stable (Q : View → Prop) : Prop := ∀ v w, Move v w → Q v → Q w

/-- A property of the view, as one of the state. -/
def On (Q : View → Prop) (s : State) : Prop := Q s.view

/-- An element of a list whose elements are at most n, or the default 0. -/
theorem getD_le {n : Nat} {l : List Nat} (h : ∀ x ∈ l, x ≤ n) (i : Nat) : l.getD i 0 ≤ n := by
  rw [List.getD_eq_getElem?_getD]
  cases hi : l[i]? with
  | none => exact Nat.zero_le n
  | some x => exact h x (List.mem_of_getElem? hi)

theorem clExtraBits_le (k : Nat) : clExtraBits k ≤ 24 := by
  unfold clExtraBits
  split <;> decide

section Moves

variable {Q : View → Prop} (hQ : Stable Q)
include hQ

/-! ## The reader -/

theorem refill_stable {v : View} {l : Nat} (hl : l ≤ 24) {b : BitSrc} (h : Q (v.withBr b)) : Q (v.withBr (b.refill l)) :=
  hQ _ _ (.refill hl b.bytes b.pops) h

theorem decodeLoop_stable {v : View} (len code ls : List Nat) (hls : ∀ l ∈ ls, l ≤ 24) {b : BitSrc} (h : Q (v.withBr b)) :
    Q (v.withBr (decodeLoop len code ls b).2) := by
  induction ls generalizing b with
  | nil => exact h
  | cons l ls ih =>
    have hr := refill_stable hQ (hls l (by simp)) h
    simp only [decodeLoop]
    split
    · exact hr
    · split
      · exact hQ _ _ (.drop l) hr
      · exact ih (fun x hx => hls x (by simp [hx])) hr

theorem decodeSym_stable {v : View} (len : List Nat) {b : BitSrc} (h : Q (v.withBr b)) :
    Q (v.withBr (decodeSym len b).2) := decodeLoop_stable hQ len _ _ (by decide) h

theorem refillNow_on {n : Nat} (hn : n ≤ 24) {s : State} (h : On Q s) : On Q (refillNow n s) :=
  refill_stable hQ hn (v := s.view) (b := brSrc s) h

theorem brDrop_on (n : Nat) {s : State} (h : On Q s) : On Q (brDrop n s) := hQ _ _ (.drop n) h

theorem brRead16_on (opc : Nat) {f : Nat → State → Res} (hf : ∀ v s, On Q s → (f v s).All (On Q)) {s : State} (h : On Q s) :
    (brRead16 opc s f).All (On Q) :=
  have h1 := refillNow_on hQ (n := 16) (by decide) h
  guardErr_all h1 (hf _ _ (brDrop_on hQ 16 h1))

theorem brRead32_on (opc : Nat) {f : Nat → Nat → State → Res} (hf : ∀ v w s, On Q s → (f v w s).All (On Q)) {s : State}
    (h : On Q s) : (brRead32 opc s f).All (On Q) :=
  guardErr_all h (brRead16_on hQ opc (fun _ _ => brRead16_on hQ opc fun _ _ => hf _ _ _) h)

/-! ## The decompressor -/

omit hQ in
theorem inflPut_on {s : State} {b : BitSrc} (h : Q (s.view.withBr b)) : On Q (inflPut s b) := by
  unfold inflPut
  split <;> exact h

omit hQ in
theorem inflSrc_view {s : State} (h : On Q s) : Q (s.view.withBr (inflSrc s)) := by
  unfold inflSrc
  split <;> exact h

theorem zipIdle_on {s : State} (h : On Q s) : On Q (zipIdle s) := hQ _ _ .dropLists h

theorem failInfl_on (e : Err) {s : State} (h : On Q s) : (failInfl e s).All (On Q) := by
  unfold failInfl
  split
  · exact h
  · exact zipIdle_on hQ h

theorem readBits_on {n : Nat} (hn : n ≤ 24) {s : State} (h : On Q s) : (readBits n s).All (On Q) := by
  have hr := refill_stable hQ hn (inflSrc_view h)
  simp only [readBits]
  split
  · refine .stop ?_
    split
    · exact inflPut_on hr
    · exact failInfl_on hQ _ (inflPut_on hr)
  · exact .val (inflPut_on (hQ _ _ (.drop n) hr))

theorem readByte_on {s : State} (h : On Q s) : (readByte s).All (On Q) := by
  unfold readByte
  split
  · exact .stop (failInfl_on hQ _ h)
  · exact readBits_on hQ (by decide) h

theorem readSym_on (d : DTable) {s : State} (h : On Q s) : (readSym d s).All (On Q) := by
  have hput : On Q (inflPut s (decodeSym d.len (inflSrc s)).2) := inflPut_on (decodeSym_stable hQ d.len (inflSrc_view h))
  unfold readSym
  split <;> rename_i hd <;> rw [hd] at hput
  · exact .val hput
  · exact .stop (failInfl_on hQ _ hput)
  · refine .stop ?_
    split
    · exact hput
    · exact failInfl_on hQ _ hput

theorem inflAlign_on {s : State} (h : On Q s) : On Q (inflAlign s) :=
  inflPut_on (hQ _ _ (.drop _) (inflSrc_view h))

omit hQ in
theorem outPush_on (bs : Bytes) {s : State} (h : On Q s) : (outPush bs s).All (On Q) := by
  simp only [outPush]
  split <;> exact h

theorem output_on (b : Byte) {s : State} (h : On Q s) : (output b s).All (On Q) := by
  have h1 := hQ _ _ (.output s.infl.owpos.toNat b) h
  simp only [output]
  split
  · exact outPush_on [b] h1
  · split
    · exact outPush_on [b] h1
    · exact h1

theorem inflReset_on {s : State} (h : On Q s) : On Q (inflReset s) := hQ _ _ .clearReader h

omit hQ in
theorem setTable_on (t : Sel) (d : DTable) {s : State} (h : On Q s) : On Q (setTable s t d) := by
  cases t <;> exact h

theorem storedHeader_on (k : Nat) (bs : Bytes) {s : State} (h : On Q s) : (storedHeader k bs s).All (On Q) := by
  induction k generalizing bs s with
  | zero =>
    simp only [storedHeader]
    split
    · exact failInfl_on hQ _ h
    · exact h
  | succ k ih => exact Got.bind_all (readByte_on hQ h) fun v s hs => ih _ hs

theorem inflBuild_on (t : Sel) (len : List Nat) {f : State → Res} (hf : ∀ s, On Q s → (f s).All (On Q)) {s : State}
    (h : On Q s) : (inflBuild t len s f).All (On Q) := by
  unfold inflBuild
  split
  · exact failInfl_on hQ _ (setTable_on _ _ h)
  · exact hf _ (setTable_on _ _ h)

theorem readCllen_on (k i : Nat) {s : State} (h : On Q s) : (readCllen k i s).All (On Q) := by
  induction k generalizing i s with
  | zero => exact inflBuild_on hQ _ _ (fun _ hs => by exact hs) h
  | succ k ih => exact Got.bind_all (readBits_on hQ (by decide) h) fun v s hs => ih _ hs

theorem readHclen_on {s : State} (h : On Q s) : (readHclen s).All (On Q) :=
  Got.bind_all (readBits_on hQ (by decide) h) fun v s hs => by
    simp only
    split
    · exact failInfl_on hQ _ hs
    · exact readCllen_on hQ _ _ hs

theorem readHdist_on {s : State} (h : On Q s) : (readHdist s).All (On Q) :=
  Got.bind_all (readBits_on hQ (by decide) h) fun _ _ hs => readHclen_on hQ hs

theorem readHlit_on {s : State} (h : On Q s) : (readHlit s).All (On Q) :=
  Got.bind_all (readBits_on hQ (by decide) h) fun _ _ hs => readHdist_on hQ hs

theorem appendLens_on (v r : Nat) {s : State} (h : On Q s) : (appendLens v r s).All (On Q) := by
  simp only [appendLens, lensAppended]
  split
  · exact h
  · exact inflBuild_on hQ _ _ (fun _ h0 => inflBuild_on hQ _ _ (fun _ h1 => by exact h1) h0) h

theorem repeatLens_on (v r : Nat) {s : State} (h : On Q s) : (repeatLens v r s).All (On Q) := by
  unfold repeatLens
  split
  · exact failInfl_on hQ _ h
  · exact appendLens_on hQ v r h

theorem wireClPrev_on (e : Nat) {s : State} (h : On Q s) : (wireClPrev e s).All (On Q) := by
  unfold wireClPrev
  split
  · exact failInfl_on hQ _ h
  · exact repeatLens_on hQ _ _ h

theorem copyLoop_on (r d : Nat) {s : State} (h : On Q s) : (copyLoop r d s).All (On Q) := by
  induction r generalizing s with
  | zero => exact h
  | succ r ih => exact all_andThen (P := On Q) (fun _ h => h) (output_on hQ _ h) fun _ hs => ih hs

theorem wireDist_on (c e : Nat) {s : State} (h : On Q s) : (wireDist c e s).All (On Q) := by
  simp only [wireDist]
  split
  · exact failInfl_on hQ _ h
  · exact copyLoop_on hQ _ _ h

theorem wireZlibHeader_on (c : BitVec 4) (f : Byte) {s : State} (h : On Q s) : (wireZlibHeader c f s).All (On Q) := by
  unfold wireZlibHeader
  split_ifs
  case neg => exact h
  all_goals exact failInfl_on hQ _ h

theorem wireZlibTrailer_on (t : Word) {s : State} (h : On Q s) : (wireZlibTrailer t s).All (On Q) := by
  simp only [wireZlibTrailer]
  split
  · exact failInfl_on hQ _ h
  · exact h

/-! ### The cursor -/

theorem fetchFlg_on (c : Nat) {s : State} (h : On Q s) : (fetchFlg c s).All (On Q) :=
  Got.fetch_all (readBits_on hQ (by decide) h) fun _ _ hs => .word hs

theorem fetchBtype_on {s : State} (h : On Q s) : (fetchBtype s).All (On Q) :=
  Got.fetch_all (readBits_on hQ (by decide) h) fun _ _ hs => .word hs

theorem fetchClExtra_on (k : Nat) {s : State} (h : On Q s) : (fetchClExtra k s).All (On Q) :=
  Got.fetch_all (readBits_on hQ (clExtraBits_le k) h) fun _ _ hs => .word hs

theorem fetchClen_on {s : State} (h : On Q s) : (fetchClen s).All (On Q) :=
  Got.fetch_all (readSym_on hQ _ h) fun k s hs => by
    split_ifs
    · exact .other (failInfl_on hQ _ hs)
    · exact .word hs
    · exact fetchClExtra_on hQ k hs

theorem fetchLenExtra_on (k : Nat) {s : State} (h : On Q s) : (fetchLenExtra k s).All (On Q) :=
  Got.fetch_all (readBits_on hQ (getD_le (by decide) _) h) fun _ _ hs => .word hs

theorem fetchLitlen_on {s : State} (h : On Q s) : (fetchLitlen s).All (On Q) :=
  Got.fetch_all (readSym_on hQ _ h) fun k s hs => by
    split
    · exact fetchLenExtra_on hQ k hs
    · exact .word hs

theorem fetchDistExtra_on (e : Nat) {s : State} (h : On Q s) : (fetchDistExtra e s).All (On Q) :=
  Got.fetch_all (readBits_on hQ (getD_le (by decide) _) h) fun _ _ hs => .word hs

theorem fetchDist_on (l : Nat) {s : State} (h : On Q s) : (fetchDist l s).All (On Q) :=
  Got.fetch_all (readSym_on hQ _ h) fun k s hs => by
    split
    · exact fetchDistExtra_on hQ k hs
    · exact .word hs

theorem fetchTrailer_on (k : Nat) (bs : Bytes) {s : State} (h : On Q s) : (fetchTrailer k bs s).All (On Q) := by
  induction k generalizing bs s with
  | zero => exact .word h
  | succ k ih => exact Got.fetch_all (readByte_on hQ h) fun _ _ hs => ih _ hs

theorem storedByte_on {s : State} (h : On Q s) : (storedByte s).All (On Q) := by
  unfold storedByte
  split
  · exact h
  · exact Got.bind_all (readByte_on hQ h) fun _ _ hs => output_on hQ _ hs

theorem fetchHeader_on {s : State} (h : On Q s) : (fetchHeader s).All (On Q) := by
  unfold fetchHeader
  split
  · exact fetchBtype_on hQ h
  · exact .other (storedHeader_on hQ _ _ h)
  · exact .other (readHlit_on hQ h)
  · exact .other (readHdist_on hQ h)
  · exact .other (readHclen_on hQ h)
  · exact .other (readCllen_on hQ _ _ h)
  · exact fetchClen_on hQ h
  · exact fetchClExtra_on hQ _ h
  · exact Got.fetch_all (readBits_on hQ (by decide) h) fun _ _ hs => fetchBtype_on hQ hs

theorem fetchHuffman_on {s : State} (h : On Q s) : (fetchHuffman s).All (On Q) := by
  unfold fetchHuffman
  split
  · exact fetchLenExtra_on hQ _ h
  · exact fetchDist_on hQ _ h
  · exact fetchDistExtra_on hQ _ h
  · exact .other (copyLoop_on hQ _ _ h)
  · exact fetchLitlen_on hQ h

theorem inflFetch_on {s : State} (h : On Q s) : (inflFetch s).All (On Q) := by
  unfold inflFetch
  split
  · split
    · exact fetchFlg_on hQ _ h
    · exact Got.fetch_all (readBits_on hQ (by decide) h) fun _ _ hs => fetchFlg_on hQ _ hs
  · exact fetchHeader_on hQ h
  · exact .other (storedByte_on hQ h)
  · exact fetchHuffman_on hQ h
  · split
    · exact fetchTrailer_on hQ _ _ h
    · exact fetchTrailer_on hQ _ _ (inflAlign_on hQ h)
  all_goals exact .finished

theorem badWord_on (w : Nat) (e : DecodeError) {s : State} (h : On Q s) : (badWord w e s).All (On Q) := by
  unfold badWord
  split
  · split <;> exact failInfl_on hQ _ h
  · exact failInfl_on hQ _ h

/-! ## The ZIP container -/

theorem failZip_on (e : Err) (info : Nat) {s : State} (h : On Q s) : (failZip e info s).All (On Q) :=
  zipIdle_on hQ (s := s) h

theorem wireEnd_on {s : State} (h : On Q s) : (wireEnd s).All (On Q) := by
  unfold wireEnd
  split
  · simp only
    split_ifs
    · exact failZip_on hQ _ _ h
    · exact zipIdle_on hQ (s := s) h
    · exact hQ _ _ .clearList h
  · exact h

theorem wireCentral_on {s : State} (h : On Q s) : (wireCentral s).All (On Q) := by
  unfold wireCentral
  split
  · simp only
    split
    · exact failZip_on hQ _ _ h
    · split_ifs
      case neg => exact h
      all_goals exact failZip_on hQ _ _ h
  · exact h

theorem wireLocal_on {s : State} (h : On Q s) : (wireLocal s).All (On Q) := by
  unfold wireLocal
  split
  · simp only
    split
    · exact failZip_on hQ _ _ h
    · split
      · exact failZip_on hQ _ _ h
      · rename_i hn
        exact hQ _ _ (.addList (Bool.eq_false_iff.2 hn)) h
  · exact h

theorem zipFetch_on {s : State} (h : On Q s) : (zipFetch s).All (On Q) := by
  have hr : ∀ f o, (fetchRecord f o s).All (On Q) := fun f o => by
    unfold fetchRecord
    split
    · exact .other (failZip_on hQ _ _ h)
    · exact .word h
  unfold zipFetch
  split
  case h_2 =>
    split
    · exact .other (failZip_on hQ _ _ h)
    · exact .other h
  case h_1 | h_4 => exact .finished
  all_goals exact hr _ _

theorem badRecord_on {s : State} (h : On Q s) : (badRecord s).All (On Q) := by
  unfold badRecord
  split <;> exact failZip_on hQ _ _ h

theorem zipOpened2_on {s : State} (h : On Q s) : On Q (zipOpened2 s) := hQ _ _ .opened h

theorem startItem_on (i : Nat) (push : Bool) (e : Entry) {s : State} (h : On Q s) : On Q (startItem i push e s) :=
  inflReset_on hQ (s := s) h

/-- What follows an entry decode finds the entry under its name, and the lists as they were. -/
theorem endItem_on (i : Nat) (e : Entry) {s : State} {f : Entry → Word → State → Res} (h : On Q s)
    (hf : ∀ e' c t, e'.name = e.name → t.zip.entries = s.zip.entries → t.zip.work = s.zip.work → On Q t →
      (f e' c t).All (On Q)) : (endItem i e s f).All (On Q) := by
  simp only [endItem]
  split
  · exact failZip_on hQ _ _ h
  · exact hf _ _ _ rfl rfl rfl h

theorem putEntry_on {i : Nat} {e e' : Entry} {s : State} (he : s.zip.entries[i]? = some e) (hn : e'.name = e.name)
    (h : On Q s) : On Q (putEntry i e' s) := hQ _ _ (.putEntry he hn) h

omit hQ in
/-- A counted command takes bytes from IN, which the view does not see. -/
theorem takeCounted_on {opc k : Nat} {s : State} {f : Bytes → State → Res} (h : On Q s)
    (hf : ∀ b s, On Q s → (f b s).All (On Q)) : (takeCounted opc k s f).All (On Q) :=
  takeCounted_all h fun _ => hf _ { s with inq := _ } h

theorem addEntry_on (opc : Nat) (e : Entry) {s : State} (h : On Q s) : (addEntry opc e s).All (On Q) := by
  unfold addEntry
  split
  · exact h
  · rename_i hn
    exact hQ _ _ (.addEntry (Bool.eq_false_iff.2 hn)) h

theorem addItem_on (opc : Nat) (s : State) (h : On Q s) : (addItem opc s).All (On Q) :=
  guardErr_all h <| guardErr_all h <| takeCounted_on h fun _ _ hs => by
    split
    · exact hs
    · exact addEntry_on hQ _ _ hs

theorem runItemData_on (i : Nat) {s : State} (h : On Q s) : (runItemData i s).All (On Q) := by
  unfold runItemData
  split
  · exact failZip_on hQ _ _ h
  · rename_i e he
    exact endItem_on hQ _ _ h fun e' c t hn ht _ hs => putEntry_on hQ (ht ▸ he) hn hs

theorem runSetLevel_on (i lv : Nat) {s : State} (h : On Q s) : (runSetLevel i lv s).All (On Q) := by
  unfold runSetLevel
  split
  · exact failZip_on hQ _ _ h
  · rename_i e he
    exact endItem_on hQ _ _ h fun e' c t hn ht _ hs => putEntry_on hQ (e' := { e' with level := lv }) (ht ▸ he) hn hs

theorem writeLocal_on (m : Nat) (p : Bytes) {e0 e : Entry} {rest : List Entry} {s : State} (hw : s.zip.work = e0 :: rest)
    (hn : e.name = e0.name) (h : On Q s) : (writeLocal m p e rest s).All (On Q) := by
  simp only [writeLocal]
  split
  · exact failZip_on hQ _ _ h
  · exact hQ _ _ (.writeCopy m hw (by exact hn)) h

theorem deflReset_on (p : DeflParams) {s : State} (h : On Q s) : On Q (deflReset p s) := hQ _ _ .clearChains h

theorem startLocal_on {e0 e : Entry} {rest : List Entry} {s : State} (hw : s.zip.work = e0 :: rest)
    (hn : e.name = e0.name) (h : On Q s) : (startLocal e rest s).All (On Q) := by
  simp only [startLocal]
  split_ifs
  · exact failZip_on hQ _ _ h
  · exact hQ _ _ (.decodeCopy hw hn) (deflReset_on hQ (mkParams e.level 0 true) h)
  · exact writeLocal_on hQ _ _ hw hn h

theorem endSave_on {s : State} (hw : s.zip.work = []) (h : On Q s) : (endSave s).All (On Q) := by
  simp only [endSave]
  split
  · exact failZip_on hQ _ _ h
  · exact hQ _ _ (.saved hw) h

theorem runSaveItem_on {s : State} (h : On Q s) : (runSaveItem s).All (On Q) := by
  unfold runSaveItem
  split
  · exact endSave_on hQ ‹_› h
  · split
    · exact startItem_on hQ _ false _ (s := s) h
    · exact startLocal_on hQ ‹_› rfl h

theorem runSaveDecoded_on {s : State} (h : On Q s) : (runSaveDecoded s).All (On Q) := by
  unfold runSaveDecoded
  split
  · exact h
  · rename_i e rest hw
    exact endItem_on hQ _ _ h fun e' c t hn _ ht hs => startLocal_on hQ (ht.trans hw) hn hs

theorem runSaveLocal_on (m : Nat) {s : State} (h : On Q s) : (runSaveLocal m s).All (On Q) := by
  unfold runSaveLocal
  split
  · exact h
  · exact writeLocal_on hQ _ _ ‹_› rfl h

/-! ## The window and its chains -/

theorem insertPos_stable {v : View} (p : Nat) {z : Lz} (h : Q (v.withLz z)) : Q (v.withLz (insertPos p z)) :=
  hQ _ _ (.insert _ _ _ _) h

theorem slideLz_stable {v : View} {z : Lz} (h : Q (v.withLz z)) : Q (v.withLz (slideLz z)) := hQ _ _ .slide h

theorem load_stable {v : View} (bs : Bytes) {z : Lz} (h : Q (v.withLz z)) : Q (v.withLz (z.load bs)) :=
  hQ _ _ (.load _ bs) h

theorem fillWindow_stable {v : View} (stage : Bytes) {z : Lz} (h : Q (v.withLz z)) :
    Q (v.withLz (fillWindow z stage).1) := by
  unfold fillWindow
  split
  · exact load_stable hQ _ h
  · exact h

theorem advanceLoop_stable {v : View} (ins : Bool) (n : Nat) {z : Lz} (h : Q (v.withLz z)) :
    Q (v.withLz (advanceLoop ins n z)) := by
  have hs : ∀ z, Q (v.withLz z) → Q (v.withLz (if slideDue z then slideLz z else z)) := fun z h => by
    split
    · exact slideLz_stable hQ h
    · exact h
  induction n generalizing z with
  | zero => exact hs z h
  | succ n ih =>
    have h1 := hs z h
    simp only [advanceLoop]
    generalize (if slideDue z then slideLz z else z) = z1 at h1 ⊢
    refine ih ?_
    split
    · exact insertPos_stable hQ _ h1
    · exact h1

theorem insertRun_stable {v : View} (n : Nat) {z : Lz} (h : Q (v.withLz z)) : Q (v.withLz (insertRun n z)) := by
  induction n generalizing z with
  | zero => exact h
  | succ n ih => exact ih (insertPos_stable hQ _ (z := { z with strStart := _ }) h)

theorem insertHead_stable {v : View} {z : Lz} (h : Q (v.withLz z)) : Q (v.withLz (insertHead z).2) := by
  unfold insertHead
  split
  · exact insertPos_stable hQ _ h
  · exact h

theorem insertBounded_stable {v : View} (bound n : Nat) {z : Lz} (h : Q (v.withLz z)) :
    Q (v.withLz (insertBounded bound n z)) := by
  induction n generalizing z with
  | zero => exact h
  | succ n ih =>
    simp only [insertBounded]
    refine ih ?_
    split
    · exact insertPos_stable hQ _ (z := { z with strStart := _ }) h
    · exact h

theorem linkCovered_stable {v : View} (n : Nat) (link : List Nat) {z : Lz} (h : Q (v.withLz z)) :
    Q (v.withLz (linkCovered n link z)) := by
  induction link generalizing z with
  | nil => exact h
  | cons o os ih =>
    simp only [linkCovered]
    refine ih ?_
    split
    · exact insertPos_stable hQ _ h
    · exact h

/-! ## The compressor -/

omit hQ in
theorem emitHeld_on {s : State} (h : On Q s) : On Q (emitHeld s) := by
  unfold emitHeld
  split <;> exact h

theorem stepChosen_on (r : FindRow) {s : State} (h : On Q s) : On Q (stepChosen r s) := by
  have h1 := emitHeld_on h
  simp only [stepChosen]
  split
  · exact h1
  · split
    · exact linkCovered_stable hQ 1 r.link (v := (emitHeld s).view) h1
    · exact linkCovered_stable hQ _ r.link (v := (emitHeld s).view) h1

theorem stepFast_on {s : State} (h : On Q s) : On Q (stepFast s) := by
  have h1 := insertHead_stable hQ (v := s.view) (z := s.lz) h
  unfold stepFast
  generalize insertHead s.lz = r at h1 ⊢
  obtain ⟨hh, z⟩ := r
  dsimp only
  generalize (if hh ≠ 0 ∧ s.lz.strStart - hh ≤ Config.maxDist then _ else _ : Nat × Nat) = m
  split_ifs
  · exact insertRun_stable hQ (v := s.view) _ (z := { z with lookahead := _ }) h1
  · exact h1
  · exact h1

theorem stepLazy_on {s : State} (h : On Q s) : On Q (stepLazy s) := by
  have h1 := insertHead_stable hQ (v := s.view) (z := s.lz) h
  unfold stepLazy
  generalize insertHead s.lz = r at h1 ⊢
  obtain ⟨hh, z⟩ := r
  dsimp only
  generalize (if hh ≠ 0 ∧ s.lz.matchLen < s.defl.params.maxLazy ∧ s.lz.strStart - hh ≤ Config.maxDist then _ else _ :
    Nat × Int) = m
  split_ifs
  · exact insertBounded_stable hQ (v := s.view) _ _ (z := { z with matchLen := _, matchStart := _, lookahead := _ }) h1
  · exact h1
  · exact h1

theorem deflStep_on {s : State} (h : On Q s) : On Q (deflStep s) := by
  unfold deflStep
  split
  · exact stepChosen_on hQ _ h
  · unfold referenceStep
    split
    · exact h
    · exact stepFast_on hQ h
    · exact stepLazy_on hQ h

omit hQ in
theorem runDefl_on {s : State} (h : On Q s) : (runDefl s).All (On Q) := by
  unfold runDefl
  split <;> exact h

theorem runDeflGo_on {s : State} (h : On Q s) : (runDeflGo s).All (On Q) := by
  have h1 := fillWindow_stable hQ (v := s.view) s.defl.stage (z := s.lz) h
  simp only [runDeflGo]
  split_ifs
  · exact h1
  · exact emitHeld_on (s := { s with lz := _, defl := _ }) h1
  all_goals exact deflStep_on hQ (s := { s with lz := _, defl := _ }) h1

theorem failDefl_on (e : Err) {s : State} (h : On Q s) : (failDefl e s).All (On Q) := by
  simp only [failDefl]
  split
  · exact zipIdle_on hQ h
  · exact h

theorem runFlushBlock_on (final : Bool) {s : State} (h : On Q s) : (runFlushBlock final s).All (On Q) := by
  unfold runFlushBlock
  split
  · obtain ⟨a, b, c, hf⟩ := failedTrees_frame s
    rw [hf]
    exact failDefl_on hQ _ h
  · exact h

omit hQ in
theorem runCompress_on {s : State} (h : On Q s) : (runCompress s).All (On Q) := by
  unfold runCompress
  split
  · exact h
  · split <;> exact h

omit hQ in
theorem runPend_on (d : Dest) (bs : Bytes) {s : State} (h : On Q s) : (runPend d bs s).All (On Q) := by
  simp only [runPend]
  split
  · exact h
  · split <;> exact h

omit hQ in
theorem runFlush_on (d : Dest) {s : State} (h : On Q s) : (runFlush d s).All (On Q) := by
  cases d with
  | packed => exact h
  | host | stream => simp only [runFlush]; split <;> exact h

/-! ## Wire symbols and tasks -/

theorem wire_on (i : Instr) {s : State} (h : On Q s) : (wire i s).All (On Q) := by
  have hw := wire_form i s
  generalize wire i s = r at hw ⊢
  cases hw with
  | stored fin => exact storedHeader_on hQ _ _ (inflAlign_on hQ (s := setBlock fin 0 s) h)
  | dynamic fin => exact readHlit_on hQ (s := setCont .hlit (setBlock fin 2 s)) h
  | reserved fin => exact failInfl_on hQ _ (s := setBlock fin 3 s) h
  | lit b => exact output_on hQ _ (s := setCont .none s) h
  | litlenReserved | distReserved => exact failInfl_on hQ _ h
  | dist c e => exact wireDist_on hQ _ _ h
  | clLen v => exact appendLens_on hQ _ _ h
  | clPrev e => exact wireClPrev_on hQ _ h
  | clZero base e => exact repeatLens_on hQ _ _ h
  | zlibHeader c f => exact wireZlibHeader_on hQ _ _ h
  | zlibTrailer t => exact wireZlibTrailer_on hQ _ h
  | zipLocal => exact wireLocal_on hQ h
  | zipCentral => exact wireCentral_on hQ h
  | zipEnd => exact wireEnd_on hQ h
  | fixed | eob | len | command => exact h

theorem runInfl_on {s : State} (h : On Q s) : (runInfl s).All (On Q) := by
  have hf := inflFetch_on hQ h
  unfold runInfl
  generalize inflFetch s = g at hf
  cases hf with
  | word hs =>
    simp only
    split
    · exact wire_on hQ _ hs
    · exact badWord_on hQ _ _ hs
  | other hr => exact hr
  | finished => exact h

theorem runZipParse_on {s : State} (h : On Q s) : (runZipParse s).All (On Q) := by
  have hf := zipFetch_on hQ h
  unfold runZipParse
  generalize zipFetch s = g at hf
  cases hf with
  | word hs =>
    simp only
    split
    · exact wire_on hQ _ hs
    · exact badRecord_on hQ hs
  | other hr => exact hr
  | finished => exact zipOpened2_on hQ (s := { s with tasks := _ }) h

theorem runTask_on (t : Task) {s : State} (h : On Q s) : (runTask t s).All (On Q) := by
  have hp : On Q { s with tasks := s.tasks.tail } := h
  cases t with
  | pend d bs => exact runPend_on d bs hp
  | flush d => exact runFlush_on d hp
  | push bs => exact outPush_on bs hp
  | infl => exact runInfl_on hQ h
  | zipParse => exact runZipParse_on hQ h
  | deflRun => exact runDefl_on hp
  | deflGo => exact runDeflGo_on hQ hp
  | slide => exact slideLz_stable hQ (v := s.view) (z := s.lz) h
  | flushBlock final => exact runFlushBlock_on hQ final hp
  | compress => exact runCompress_on hp
  | itemData i => exact runItemData_on hQ i hp
  | setLevel i lv => exact runSetLevel_on hQ i lv hp
  | saveItem => exact runSaveItem_on hQ hp
  | saveDecoded => exact runSaveDecoded_on hQ hp
  | saveLocal m => exact runSaveLocal_on hQ m hp
  | res | inflRes | blockEnd | blockDone | deflTail | deflDone | deflInputRes | deflFinishRes | sinkClear => exact h

end Moves

end Sys2Proof.Machine
end

section
/-! PROOFS. From what a running command keeps of the view to what it leaves where it ends (40_system_commands.md R202, 00_scope.md
R20): the frame, the commands, and the step. -/

namespace Sys2Proof.Machine

/-! ## The ends of a command -/

/-- What a command leaves: Q holds of the view while it runs, R of the state where it completes, holds, raises or is cut off by
the budget (log 2). -/
structure Ends (Q : View → Prop) (R : State → Prop) : Prop where
  complete : ∀ s, On Q s → R (complete s)
  hold : ∀ s w, On Q s → R { s with wait := w }
  raise : ∀ s e i, On Q s → R (raiseErr e i s)
  running : ∀ s, On Q s → R s
  resumed : ∀ s, R s → s.busy = true → On Q s
  issued : ∀ s w, R s → On Q (issue w s)
  softReset : ∀ s, R (Machine.complete (softReset s))
  hardReset : ∀ s, R (hardReset s)
  /-- R speaks of the view, the hold and the work left alone. -/
  frame : ∀ s t, t.view = s.view → t.wait = s.wait → t.tasks = s.tasks → R s → R t

/-- A property that BUSY does not touch and that the reset state has is its own end. -/
theorem ends_on {Q : View → Prop} (hb : ∀ (v : View) (b : Bool), Q v → Q { v with busy := b })
    (hr : Q State.reset.view) : Ends Q (On Q) where
  complete s h := hb _ false h
  hold _ _ h := h
  raise s _ _ h := hb _ false h
  running _ h := h
  resumed _ h _ := h
  issued s _ h := hb _ true h
  softReset _ := hr
  hardReset _ := hr
  frame _ _ hv _ _ h := by
    unfold On
    rw [hv]
    exact h

/-- Past a guard its condition is false. -/
theorem guardErr_passed {P : State → Prop} {b : Bool} {e : Err} {o : Nat} {s : State} {r : Res} (h : P s)
    (hr : b = false → r.All P) : (guardErr b e o s r).All P := by
  cases b
  · exact hr rfl
  · exact h

/-- A command on an item goes on with the entry of that index. -/
theorem zipItem_found {P : State → Prop} {opc i : Nat} {s : State} {f : Entry → Res} (h : P s)
    (hf : ∀ e, s.zip.entries[i]? = some e → (f e).All P) : (zipItem opc i s f).All P := by
  unfold zipItem
  split
  · exact h
  · exact hf _ ‹_›

theorem setTree_on {Q : View → Prop} (t : Sel) (x : HTree) {s : State} (h : On Q s) : On Q (setTree s t x) := by
  cases t <;> exact h

/-- A register write touches CTRL, IN, ADLER, CRC and ARG, nothing else (10_state.md R30). -/
theorem writeReg_frame (off : BitVec 8) (v : Word) (s : State) : ∃ c iq ie a cr ar,
    writeReg off v s = { s with ctrl := c, inq := iq, inEnd := ie, adler := a, crc := cr, arg := ar } := by
  unfold writeReg
  split
  case h_3 => simp only; split_ifs <;> exact ⟨_, _, _, _, _, _, rfl⟩
  case h_10 => exact ⟨_, _, _, _, _, _, rfl⟩
  all_goals split <;> exact ⟨_, _, _, _, _, _, rfl⟩

/-! ## The commands -/

section Commands

variable {Q : View → Prop} {R : State → Prop} (hQ : Stable Q) (E : Ends Q R)
include E

theorem finish_ends {f : State → Res} {s : State} (h : On Q s) (hf : ∀ s, On Q s → (f s).All (On Q)) :
    NextAll R (finish f s) := by
  have hr := hf (begun s) h
  simp only [finish, nextAll_next]
  cases hq : f (begun s) <;> rw [hq] at hr
  · exact E.complete _ hr
  · exact E.hold _ _ hr
  · exact E.raise _ _ _ hr

theorem finishWire_ends {r : Res} (hr : r.All (On Q)) : NextAll R (finishWire r) := by
  cases r <;> simp only [finishWire, nextAll_next]
  · exact E.running _ hr
  · exact E.hold _ _ hr
  · exact E.raise _ _ _ hr

/-! ### Commands that guard and return -/

theorem execHencBuildTree_ends (t : BitVec 8) {s : State} (h : On Q s) : NextAll R (execHencBuildTree t s) := by
  refine finish_ends E h fun s hs => hencPrologue_all hs fun k => ?_
  simp only
  split
  · exact hs
  · exact setTree_on k _ hs

theorem execHdecBuild_ends (t : BitVec 8) {s : State} (h : On Q s) : NextAll R (execHdecBuild t s) := by
  refine finish_ends E h fun s hs => hdecPrologue_all hs fun k => guardErr_all hs <|
    takeCounted_on hs fun b s1 h1 => ?_
  simp only
  split
  · exact setTable_on k _ h1
  · split
    · exact setTable_on k _ h1
    · exact setTable_on k _ h1

theorem brReads_ends {opc : Nat} {r : State → Res} (hr : ∀ s, On Q s → (r s).All (On Q)) {s : State} (h : On Q s) :
    NextAll R (finish (fun s => inflFree opc s <| brAligned opc s <| r s) s) :=
  finish_ends E h fun _ hs => guardErr_all hs <| guardErr_all hs <| hr _ hs

theorem execLzFind_ends {s : State} (h : On Q s) : NextAll R (execLzFind s) := by
  refine finish_ends E h fun s hs => guardErr_all hs <| guardErr_all hs ?_
  simp only
  split_ifs <;> exact hs

theorem execZipItemInfo_ends {s : State} (h : On Q s) : NextAll R (execZipItemInfo s) := by
  refine finish_ends E h fun s hs => guardErr_all hs <| zipItem_found hs fun _ _ => guardErr_all hs ?_
  split <;> exact hs

include hQ

/-! ### The drive -/

/-- The one induction over a command's tasks, up to its end. -/
theorem drive_ends (k : Nat) {s : State} (h : On Q s) : R (drive k s) := by
  induction k generalizing s with
  | zero =>
    simp only [drive]
    split
    · exact E.complete _ h
    · exact E.running _ h
  | succ k ih =>
    simp only [drive]
    split
    · exact E.complete _ h
    · rename_i t _ _
      have hr := runTask_on hQ t h
      cases hq : runTask t s <;> rw [hq] at hr
      · exact ih hr
      · exact E.hold _ _ hr
      · exact E.raise _ _ _ hr

theorem launch_ends {f : State → Res} {s : State} (h : On Q s) (hf : ∀ s, On Q s → (f s).All (On Q)) :
    NextAll R (launch f s) := by
  have hr := hf (begun s) h
  unfold launch
  cases hq : f (begun s) <;> rw [hq] at hr <;> simp only [nextAll_next]
  · exact drive_ends hQ E _ hr
  · exact E.hold _ _ hr
  · exact E.raise _ _ _ hr

theorem runOn_ends {o : Host.Outcome State Fault Refusal} (h : NextAll R o) : NextAll R (runOn o) := by
  cases o with
  | next s =>
    have hs : R s := h s rfl
    simp only [runOn]
    split <;> simp only [nextAll_next]
    · rename_i hb
      exact drive_ends hQ E _ (E.resumed s hs (Bool.and_eq_true_iff.1 hb).1)
    · exact hs
  | fault f => cases f
  | refused r => intro t ht; cases ht

/-! ### The other commands -/

theorem execHdecDecode_ends (t : BitVec 8) {s : State} (h : On Q s) : NextAll R (execHdecDecode t s) := by
  refine finish_ends E h fun s hs => hdecPrologue_all hs fun k => guardErr_all hs ?_
  have hput : On Q (brPut s (decodeSym (getTable s k).len (brSrc s)).2) :=
    decodeSym_stable hQ (v := s.view) _ (b := brSrc s) hs
  split <;> rename_i hd <;> rw [hd] at hput
  · exact hput
  · exact hput
  · split <;> exact hput

theorem execBrPeek_ends (n : BitVec 8) {s : State} (h : On Q s) : NextAll R (execBrPeek n s) := by
  refine finish_ends E h fun s hs => guardErr_all hs <| guardErr_passed hs fun hb => ?_
  have hn : ¬16 < n.toNat := of_decide_eq_false hb
  have h1 := refillNow_on hQ (n := n.toNat) (by omega) hs
  simp only
  split <;> exact h1

theorem execBrSkip_ends (n : BitVec 8) {s : State} (h : On Q s) : NextAll R (execBrSkip n s) := by
  refine finish_ends E h fun s hs => guardErr_all hs <| guardErr_passed hs fun hb => ?_
  have hn : ¬16 < n.toNat := of_decide_eq_false hb
  have h1 := refillNow_on hQ (n := n.toNat) (by omega) hs
  exact guardErr_all h1 (brDrop_on hQ _ h1)

theorem execZipOpen_ends {s : State} (h : On Q s) : NextAll R (execZipOpen s) := by
  refine launch_ends hQ E h fun s hs => guardErr_all hs ?_
  have h1 := hQ _ _ .clearEntries hs
  simp only
  split
  · exact hQ _ _ .clearList h1
  · exact h1

theorem execZipAddDir_ends {s : State} (h : On Q s) : NextAll R (execZipAddDir s) := by
  refine finish_ends E h fun s hs => guardErr_all hs <| guardErr_all hs <| takeCounted_on hs fun _ s1 h1 => ?_
  split
  · exact h1
  · exact guardErr_all h1 (addEntry_on hQ _ _ h1)

theorem execZipUpdate_ends {s : State} (h : On Q s) : NextAll R (execZipUpdate s) := by
  refine finish_ends E h fun s hs => guardErr_all hs <| zipItem_found hs fun e he => guardErr_all hs <|
    takeCounted_all hs fun _ => ?_
  exact putEntry_on hQ (s := { s with inq := _ }) (e := e) he rfl hs

theorem execZipItemData_ends {s : State} (h : On Q s) : NextAll R (execZipItemData s) := by
  refine launch_ends hQ E h fun s hs => guardErr_all hs <| guardErr_all hs <| zipItem_found hs fun e _ => ?_
  split
  · exact startItem_on hQ _ true e (s := s) hs
  · exact hs

theorem execZipSetItemLevel_ends {s : State} (h : On Q s) : NextAll R (execZipSetItemLevel s) := by
  refine launch_ends hQ E h fun s hs =>
    guardErr_all hs <| guardErr_all hs <| zipItem_found hs fun e he => guardErr_all hs ?_
  split
  · exact startItem_on hQ _ false e (s := s) hs
  · exact putEntry_on hQ (e := e) he rfl hs

theorem execZipSave_ends {s : State} (h : On Q s) : NextAll R (execZipSave s) := by
  refine launch_ends hQ E h fun s hs => guardErr_all hs <| guardErr_all hs <| guardErr_all hs ?_
  split
  · exact failZip_on hQ _ _ hs
  · exact hQ _ _ .startSave hs

theorem exec_ends (i : Instr) {s : State} (h : On Q s) : NextAll R (exec i s) := by
  by_cases hc : (encode i).1 = .cmd
  case neg =>
    rw [exec_wire i s hc]
    exact finishWire_ends E (wire_on hQ i h)
  cases i <;> dsimp only [exec]
  case reset => exact (nextAll_next _ _).2 (E.softReset _)
  case adlerUpdate | crcUpdate =>
    exact finish_ends E h fun s hs => guardErr_all hs <| takeCounted_on hs fun _ _ h1 => by exact h1
  case hencReset t => exact finish_ends E h fun s hs => hencPrologue_all hs fun k => setTree_on k _ hs
  case hencRecord t sym =>
    exact finish_ends E h fun s hs => hencPrologue_all hs fun k => guardErr_all hs (setTree_on k _ hs)
  case hencBuildTree t => exact execHencBuildTree_ends E t h
  case hencBuildCodes t =>
    exact finish_ends E h fun s hs => hencPrologue_all hs fun k => guardErr_all hs (setTree_on k _ hs)
  case hencEncode t sym =>
    exact launch_ends hQ E h fun s hs => hencPrologue_all hs fun k =>
      guardErr_all hs <| guardErr_all hs <| guardErr_all hs hs
  case hencEstimate t => exact finish_ends E h fun s hs => hencPrologue_all hs fun _ => hs
  case hencQuery t sym =>
    exact finish_ends E h fun s hs => hencPrologue_all hs fun _ => guardErr_all hs <| guardErr_all hs hs
  case hdecBuild t => exact execHdecBuild_ends E t h
  case hdecBuildFixed t =>
    exact finish_ends E h fun s hs => hdecPrologue_all hs fun k => by cases k <;> exact hs
  case hdecDecode t => exact execHdecDecode_ends hQ E t h
  case bwWriteBits n v => exact launch_ends hQ E h fun s hs => guardErr_all hs <| guardErr_all hs hs
  case bwAlign | bwFlush => exact launch_ends hQ E h fun s hs => guardErr_all hs hs
  case bwWriteBytes =>
    exact launch_ends hQ E h fun s hs => guardErr_all hs <| guardErr_all hs <| guardErr_all hs <|
      takeCounted_on hs fun _ _ h1 => guardErr_all h1 h1
  case bwWriteShortLe | bwWriteShortBe | bwWriteIntLe | bwWriteIntBe =>
    exact launch_ends hQ E h fun s hs => guardErr_all hs <| guardErr_all hs hs
  case brPeek n => exact execBrPeek_ends hQ E n h
  case brSkip n => exact execBrSkip_ends hQ E n h
  case brRead16Le | brRead16Be =>
    exact brReads_ends E (fun s hs => brRead16_on hQ _ (fun _ _ h1 => by exact h1) hs) h
  case brRead32Le | brRead32Be =>
    exact brReads_ends E (fun s hs => brRead32_on hQ _ (fun _ _ _ h1 => by exact h1) hs) h
  case brAlign => exact finish_ends E h fun s hs => guardErr_all hs <| brDrop_on hQ (s.br.n % 8) hs
  case brReset => exact finish_ends E h fun s hs => guardErr_all hs <| hQ _ _ .clearReader hs
  case lzReset => exact finish_ends E h fun s hs => guardErr_all hs <| guardErr_all hs <| hQ _ _ .clearChains hs
  case lzLoad =>
    exact finish_ends E h fun s hs => guardErr_all hs <| guardErr_all hs <| takeCounted_on hs fun b s1 h1 =>
      load_stable hQ (v := s1.view) b (z := s1.lz) h1
  case lzFind => exact execLzFind_ends E h
  case lzAdvance =>
    exact finish_ends E h fun s hs => guardErr_all hs <| guardErr_all hs <|
      advanceLoop_stable hQ (v := s.view) _ _ (z := s.lz) hs
  case deflReset => exact finish_ends E h fun s hs => guardErr_all hs <| deflReset_on hQ _ hs
  case deflInput =>
    exact launch_ends hQ E h fun s hs => guardErr_all hs <| guardErr_all hs <| guardErr_all hs <|
      takeCounted_on hs fun _ _ h1 => by exact h1
  case deflFinish => exact launch_ends hQ E h fun s hs => guardErr_all hs <| guardErr_all hs hs
  case compress => exact launch_ends hQ E h fun s hs => guardErr_all hs <| deflReset_on hQ (ctrlParams s) (s := s) hs
  case inflReset => exact finish_ends E h fun s hs => inflReset_on hQ (s := s) hs
  case inflRun => exact launch_ends hQ E h fun s hs => guardErr_all hs <| guardErr_all hs hs
  case decompress => exact launch_ends hQ E h fun s hs => inflReset_on hQ (s := s) hs
  case zipNew => exact finish_ends E h fun s hs => guardErr_all hs <| hQ _ _ .clearEntries hs
  case zipOpen => exact execZipOpen_ends hQ E h
  case zipAddItem | zipAddFile => exact finish_ends E h (addItem_on hQ _)
  case zipAddDir => exact execZipAddDir_ends hQ E h
  case zipUpdate => exact execZipUpdate_ends hQ E h
  case zipRemove =>
    exact finish_ends E h fun s hs => guardErr_all hs <| zipItem_found hs fun _ _ => hQ _ _ (.removeEntry _) hs
  case zipFind =>
    exact finish_ends E h fun s hs => guardErr_all hs <| guardErr_all hs <| takeCounted_on hs fun _ _ h1 => by exact h1
  case zipItemData => exact execZipItemData_ends hQ E h
  case zipItemInfo => exact execZipItemInfo_ends E h
  case zipItemName => exact launch_ends hQ E h fun s hs => guardErr_all hs <| zipItem_found hs fun _ _ => hs
  case zipSetItemLevel => exact execZipSetItemLevel_ends hQ E h
  case zipSave => exact execZipSave_ends hQ E h
  case zipClose => exact finish_ends E h fun s hs => hQ _ _ .clearEntries hs
  case brAvail | bwReset | bwStatus => exact finish_ends E h fun s hs => guardErr_all hs hs
  case nop | adlerInit | crcInit | zipInfo => exact finish_ends E h fun s hs => hs
  all_goals cases hc

/-! ## The step -/

theorem runLatched_ends {s : State} (h : On Q s) : NextAll R (runLatched s) := by
  unfold runLatched
  split
  · exact exec_ends hQ E _ h
  · exact (nextAll_next _ _).2 (E.raise _ _ _ h)

omit E in
theorem fetchInstr_on {s : State} (h : On Q s) {r : Instr × State} (hr : fetchInstr s = some r) : On Q r.2 := by
  obtain ⟨f, w, hw | hw⟩ := fetchInstr_some hr
  · cases hw ▸ inflFetch_on hQ h with
    | word hs => exact hs
  · cases hw ▸ zipFetch_on hQ h with
    | word hs => exact hs

theorem resume_ends {s : State} (h : On Q s) : NextAll R (resume s) := by
  unfold resume
  split
  · exact runLatched_ends hQ E h
  · split
    · exact runOn_ends hQ E (exec_ends hQ E _ (fetchInstr_on hQ h ‹_›))
    · exact (nextAll_next _ _).2 (drive_ends hQ E _ h)

omit hQ in
theorem hostAct_ends (a : HostAct) {s : State} (h : R s) : R (hostAct a s) := by
  cases a with
  | write off bytes v =>
    simp only [hostAct]
    split
    · split
      · exact E.frame s _ rfl rfl rfl h
      · obtain ⟨c, iq, ie, a, cr, ar, hw⟩ := writeReg_frame off v s
        exact E.frame s _ (hw ▸ rfl) (hw ▸ rfl) (hw ▸ rfl) h
    · exact h
  | read off bytes =>
    simp only [hostAct, hostRead]
    split <;> exact E.frame s _ rfl rfl rfl h
  | hwReset => exact E.hardReset s

theorem step_ends {s : State} (h : R s) : NextAll R (step s) := by
  unfold step
  split
  · rename_i hm
    exact resume_ends hQ E (s := clearWait s) (E.resumed s h (Bool.and_eq_true_iff.1 hm).1)
  · split
    · exact (nextAll_next _ _).2 h
    · rename_i rest _
      have h1 : R { s with host := rest } := E.frame s _ rfl rfl rfl h
      unfold hostStep
      split
      · exact runLatched_ends hQ E (E.issued _ _ h1)
      · exact (nextAll_next _ _).2 (hostAct_ends E _ h1)

end Commands
end Sys2Proof.Machine
end

section
/-! PROOFS. The invariants of memory, reader, idleness and names (10_state.md R42, R51, R54, R72, R88, R91), each a case analysis over
the moves. -/

namespace Sys2Proof.Machine

/-! ## Memory -/

/-- WIN, OWIN, HEAD and PREV in canonical form, of the view. -/
def View.memOk (v : View) : Prop :=
  Memory.wf v.win = true ∧ Memory.wf v.owin = true ∧ Chain.wf v.head = true ∧ Chain.wf v.prev = true

theorem memOk_on (s : State) : On View.memOk s ↔ s.memOk := Iff.rfl

theorem memOk_stable : Stable View.memOk := by
  rintro v w m ⟨hwin, howin, hhead, hprev⟩
  cases m with
  | load k bs => exact ⟨memory_wf_cellPut k bs hwin, howin, hhead, hprev⟩
  | insert i j x y =>
    exact ⟨hwin, howin, cellsFrom_cellSet 0 y (Nat.zero_le j) hhead, cellsFrom_cellSet 0 x (Nat.zero_le i) hprev⟩
  | slide => exact ⟨memory_wf_slideWin hwin, howin, chain_wf_slideChain hhead, chain_wf_slideChain hprev⟩
  | clearChains => exact ⟨hwin, howin, rfl, rfl⟩
  | output k b => exact ⟨hwin, cellsFrom_cellSet 0 b (Nat.zero_le k) howin, hhead, hprev⟩
  | _ => exact ⟨hwin, howin, hhead, hprev⟩

/-- Settles O55: every write, load, insertion and slide keeps the canonical form, and a step makes no other change. -/
theorem everyStepKeepsMemoryCanonical : Obligations.EveryStepKeepsMemoryCanonical :=
  fun s t h hst => (memOk_on t).1 <|
    step_ends memOk_stable (ends_on (fun _ _ h => h) reset_memory_wf) ((memOk_on s).2 h) t hst

/-! ## Reader -/

/-- The reader's bound, of the view. -/
def View.readerOk (v : View) : Prop := v.br.n < 32 ∧ v.br.acc.toNat < 2 ^ v.br.n

theorem readerOk_on (s : State) : On View.readerOk s ↔ s.readerOk := Iff.rfl

theorem reset_reader_bounded : Br.reset.n < 32 ∧ Br.reset.acc.toNat < 2 ^ Br.reset.n := by decide

theorem readerOk_stable : Stable View.readerOk := by
  rintro v w m ⟨hn, ha⟩
  cases m with
  | refill hl bs pops => exact refillLoop_ok hl bs _ _ pops hn ha
  | drop k => exact drop_ok k (b := ⟨v.br.acc, v.br.n, [], 0⟩) ⟨hn, ha⟩
  | clearReader => exact reset_reader_bounded
  | _ => exact ⟨hn, ha⟩

/-- Settles O56: a refill asks for at most 24 bits and stops there, a drop moves the rest down, and a step makes no other
change. -/
theorem everyStepKeepsTheReaderBounded : Obligations.EveryStepKeepsTheReaderBounded :=
  fun s t h hst => (readerOk_on t).1 <|
    step_ends readerOk_stable (ends_on (fun _ _ h => h) reset_reader_bounded) ((readerOk_on s).2 h) t hst

/-! ## Idleness -/

/-- BUSY, of the view. -/
def View.isBusy (v : View) : Prop := v.busy = true

theorem isBusy_stable : Stable View.isBusy := by
  intro v w m h
  cases m <;> exact h

/-- A busy block meets the invariant whatever it holds for. -/
theorem idleOk_of_busy {s : State} (h : s.busy = true) : s.idleOk := fun hb => absurd h (by simp [hb])

/-- While a command runs BUSY is 1; it is cleared only together with the hold and the work. -/
theorem idleOk_ends : Ends View.isBusy State.idleOk where
  complete _ _ _ := ⟨rfl, rfl⟩
  hold _ _ h := idleOk_of_busy h
  raise _ _ _ _ _ := ⟨rfl, rfl⟩
  running _ h := idleOk_of_busy h
  resumed _ _ hb := hb
  issued _ _ _ := rfl
  softReset _ _ := ⟨rfl, rfl⟩
  hardReset _ _ := ⟨rfl, rfl⟩
  frame s t hv hw ht h hb := by
    have hbs : s.busy = false := (congrArg View.busy hv).symm.trans hb
    exact ⟨hw.trans (h hbs).1, ht.trans (h hbs).2⟩

/-- Settles O58: BUSY is 1 as long as a command runs or holds, and its end clears the hold and the work with it. -/
theorem idleMeansNoHoldAndNoWork : Obligations.IdleMeansNoHoldAndNoWork :=
  fun _ t h hst => step_ends isBusy_stable idleOk_ends h t hst

/-! ## Names -/

theorem hasName_false {es : List Entry} {n : Bytes} (h : hasName es n = false) : n ∉ namesOf es := by
  simp only [hasName, List.any_eq_false, beq_iff_eq] at h
  simpa [namesOf] using h

/-- A new name keeps the names distinct. -/
theorem namesOf_append_nodup {es : List Entry} {e : Entry} (h : (namesOf es).Nodup) (hn : hasName es e.name = false) :
    (namesOf (es ++ [e])).Nodup := by
  simp only [namesOf, List.map_append, List.map_cons, List.map_nil]
  exact List.nodup_append_comm.1 (List.nodup_cons.2 ⟨hasName_false hn, h⟩)

/-- An entry replaced by one of its name leaves the names. -/
theorem namesOf_setAt {es : List Entry} {i : Nat} {e e' : Entry} (h : es[i]? = some e) (hn : e'.name = e.name) :
    namesOf (setAt es i e') = namesOf es := by
  induction es generalizing i with
  | nil => rfl
  | cons x xs ih =>
    cases i with
    | zero =>
      obtain rfl : x = e := by simpa using h
      simp [setAt, namesOf, hn]
    | succ i => exact congrArg (x.name :: ·) (ih (by simpa using h))

theorem namesOf_eraseIdx_nodup {es : List Entry} (i : Nat) (h : (namesOf es).Nodup) : (namesOf (es.eraseIdx i)).Nodup :=
  h.sublist ((List.eraseIdx_sublist es i).map _)

/-- The name of a written copy moves from the unwritten ones to the records. -/
theorem namesOf_writeCopy (rs : List (Entry × Nat)) {e e' : Entry} (es : List Entry) (m : Nat) (hn : e'.name = e.name) :
    namesOf ((rs ++ [(e', m)]).map Prod.fst) ++ namesOf es = namesOf (rs.map Prod.fst) ++ namesOf (e :: es) := by
  simp [namesOf, hn]

/-- No two entries share a name, of the view. -/
def View.namesOk (v : View) : Prop :=
  (namesOf v.entries).Nodup ∧ (namesOf v.list).Nodup ∧ (namesOf (v.recs.map Prod.fst) ++ namesOf v.work).Nodup

theorem namesOk_on (s : State) : On View.namesOk s ↔ s.namesOk := Iff.rfl

theorem namesOk_stable : Stable View.namesOk := by
  rintro v w m ⟨he, hl, hs⟩
  cases m with
  | clearEntries => exact ⟨List.nodup_nil, hl, hs⟩
  | addEntry hn => exact ⟨namesOf_append_nodup he hn, hl, hs⟩
  | putEntry hi hn => exact ⟨(namesOf_setAt hi hn).symm ▸ he, hl, hs⟩
  | removeEntry i => exact ⟨namesOf_eraseIdx_nodup i he, hl, hs⟩
  | clearList => exact ⟨he, List.nodup_nil, hs⟩
  | addList hn => exact ⟨he, namesOf_append_nodup hl hn, hs⟩
  | opened => exact ⟨hl, List.nodup_nil, hs⟩
  | dropLists => exact ⟨he, List.nodup_nil, List.nodup_nil⟩
  | startSave => exact ⟨he, hl, he⟩
  | decodeCopy hw hn =>
    refine ⟨he, hl, ?_⟩
    rw [hw] at hs
    simpa only [namesOf, List.map_cons, hn] using hs
  | writeCopy m hw hn => exact ⟨he, hl, namesOf_writeCopy _ _ m hn ▸ hw ▸ hs⟩
  | saved hw =>
    rw [hw] at hs
    exact ⟨by simpa only [namesOf, List.map_nil, List.append_nil] using hs, hl, List.nodup_nil⟩
  | _ => exact ⟨he, hl, hs⟩

theorem reset_names_distinct : View.namesOk State.reset.view := ⟨List.nodup_nil, List.nodup_nil, List.nodup_nil⟩

/-- Settles O59: an entry is added under a new name, replaced under its own, removed, or moved from one list to the next. -/
theorem entryNamesStayDistinct : Obligations.EntryNamesStayDistinct :=
  fun s t h hst => (namesOk_on t).1 <|
    step_ends namesOk_stable (ends_on (fun _ _ h => h) reset_names_distinct) ((namesOk_on s).2 h) t hst

end Sys2Proof.Machine
end

section
/-! PROOFS. The registers as the host sees them (10_state.md R30-R48), the issue of a command (40_system_commands.md R202), the symbol
at a cursor (R36), and the report of a raise (60_exceptions.md R607). -/

namespace Sys2Proof.Machine

/-! ## STATUS (R42) -/

theorem bitAt_getLsbD (b : Bool) {i k : Nat} (hk : k < 32) : (bitAt b i).getLsbD k = (b && decide (k = i)) := by
  cases b with
  | false => simp [bitAt]
  | true =>
    have hone : (1 : Word).getLsbD (k - i) = decide (k - i = 0) := BitVec.getLsbD_one.trans (by simp)
    simp only [bitAt, if_true, BitVec.getLsbD_shiftLeft, hk, decide_true, Bool.true_and, hone]
    by_cases h : k < i <;> simp [h] <;> omega

theorem DeflPhase.code_lt (p : DeflPhase) : p.code < 16 := by cases p <;> decide

theorem InflPhase.code_lt (p : InflPhase) : p.code < 16 := by cases p <;> decide

/-- The bits of a number placed at bit j of a register. -/
theorem getLsbD_ofNat_mul (c : Nat) {j k : Nat} (hk : k < 32) :
    (BitVec.ofNat 32 (c * 2 ^ j)).getLsbD k = (decide (j ≤ k) && c.testBit (k - j)) := by
  rw [BitVec.getLsbD_ofNat, Nat.testBit_mul_two_pow]
  simp [hk]

/-- Every bit of STATUS. -/
theorem status_getLsbD (s : State) {k : Nat} (hk : k < 32) : (status s).getLsbD k =
    (s.busy && decide (k = 0) || s.err && decide (k = 1) || s.uerr && decide (k = 2) || s.wait.isIn && decide (k = 3)
      || s.wait.isOut && decide (k = 4) || s.inEnd && decide (k = 5) || s.drop && decide (k = 6)
      || decide (8 ≤ k) && s.defl.phase.code.testBit (k - 8) || decide (12 ≤ k) && s.infl.phase.code.testBit (k - 12)
      || s.zip.isOpen && decide (k = 16)) := by
  simp only [status, BitVec.getLsbD_or, bitAt_getLsbD _ hk, ← getLsbD_ofNat_mul _ hk]
  rfl

/-- A code of four bits has no bit from 4 on. -/
theorem testBit_code {c k : Nat} (hc : c < 16) (hk : 4 ≤ k) : c.testBit k = false :=
  Nat.testBit_lt_two_pow (Nat.lt_of_lt_of_le hc (Nat.pow_le_pow_right (n := 2) (by decide) hk))

/-- From bit 8 on only the phases and ZIP_OPEN show. -/
theorem status_getLsbD_high (s : State) {k : Nat} (h8 : 8 ≤ k) (hk : k < 32) : (status s).getLsbD k =
    (s.defl.phase.code.testBit (k - 8) || decide (12 ≤ k) && s.infl.phase.code.testBit (k - 12)
      || s.zip.isOpen && decide (k = 16)) := by
  have hne : ∀ j < 8, k ≠ j := fun j hj => by omega
  rw [status_getLsbD s hk]
  simp [hne, h8]

theorem status_deflPhase (s : State) : (status s).extractLsb' 8 4 = BitVec.ofNat 4 s.defl.phase.code := by
  refine BitVec.eq_of_getLsbD_eq fun i hi => ?_
  rw [BitVec.getLsbD_extractLsb', status_getLsbD_high s (by omega) (by omega), BitVec.getLsbD_ofNat]
  have h12 : ¬12 ≤ 8 + i := by omega
  have h16 : 8 + i ≠ 16 := by omega
  simp [h12, h16]

theorem status_inflPhase (s : State) : (status s).extractLsb' 12 4 = BitVec.ofNat 4 s.infl.phase.code := by
  refine BitVec.eq_of_getLsbD_eq fun i hi => ?_
  rw [BitVec.getLsbD_extractLsb', status_getLsbD_high s (by omega) (by omega), BitVec.getLsbD_ofNat,
    testBit_code s.defl.phase.code_lt (by omega)]
  have h16 : 12 + i ≠ 16 := by omega
  simp [h16]

theorem status_rest (s : State) : (status s).extractLsb' 17 15 = 0 := by
  refine BitVec.eq_of_getLsbD_eq fun i hi => ?_
  rw [BitVec.getLsbD_extractLsb', status_getLsbD_high s (by omega) (by omega),
    testBit_code s.defl.phase.code_lt (by omega), testBit_code s.infl.phase.code_lt (by omega)]
  have h16 : 17 + i ≠ 16 := by omega
  simp [h16]

/-- Settles O9, bit by bit. -/
theorem statusShowsEveryField : Obligations.StatusShowsEveryField := by
  intro s
  have hd : ((status s).extractLsb' 8 4).toNat = s.defl.phase.code := by
    rw [status_deflPhase, BitVec.toNat_ofNat, Nat.mod_eq_of_lt s.defl.phase.code_lt]
  have hi : ((status s).extractLsb' 12 4).toNat = s.infl.phase.code := by
    rw [status_inflPhase, BitVec.toNat_ofNat, Nat.mod_eq_of_lt s.infl.phase.code_lt]
  have hz : (status s).getLsbD 16 = s.zip.isOpen := by
    rw [status_getLsbD_high s (by decide) (by decide), testBit_code s.defl.phase.code_lt (by decide),
      testBit_code s.infl.phase.code_lt (by decide)]
    simp
  refine ⟨?_, ?_, ?_, ?_, ?_, ?_, ?_, ?_, hd, hi, hz, status_rest s⟩
  all_goals
    rw [status_getLsbD s (by decide)]
    simp

/-! ## The step, by what it finds -/

/-- Settles O5: the issue of a command and the re-run of one that held before it changed anything (R202). -/
theorem stepRunsTheCommandWord : Obligations.StepRunsTheCommandWord := by
  refine ⟨fun s w rest i hb hh hd => ?_, fun s i hb hw ht hd => ?_⟩
  · have hc : cmdWrite (.write 0x04 4 w) { s with host := rest } = some w := by simp [cmdWrite, wholeAccess, hb]
    have hl : runLatched (issue w { s with host := rest }) = exec i (issue w { s with host := rest }) := by
      simp only [runLatched, issue_latCmd, hd]
    have hm : engineMoves s = false := by simp [engineMoves, hb]
    simp only [step, hm, hh, hostStep, hc]
    exact hl
  · have hm : engineMoves s = true := by simp [engineMoves, hb, hw]
    simp only [step, hm, resume, clearWait, ht, runLatched, hd]
    rfl

/-- With the engine free to move, a step of a command at a cursor is `exec` of the symbol there, run on. -/
theorem step_of_fetch {s s1 : State} {i : Instr} (hb : s.busy = true) (hw : waitOver s = true) (ht : s.tasks ≠ [])
    (hf : fetchInstr (clearWait s) = some (i, s1)) : step s = runOn (exec i s1) := by
  have hm : engineMoves s = true := by simp [engineMoves, hb, hw]
  cases hts : s.tasks with
  | nil => exact absurd hts ht
  | cons t ts => simp only [step, hm, if_true, resume, clearWait_tasks, hts, hf]

/-- Settles O6: the symbol at a cursor is executed and the engine runs on (R453, R520). -/
theorem stepRunsTheWireSymbol : Obligations.StepRunsTheWireSymbol := by
  refine ⟨fun s s1 ts f w i hb hw ht hf hd => ?_, fun s s1 ts f w i hb hw ht hf hd => ?_, fun t hb hw => ?_,
    fun t h => ?_⟩
  · have hf : inflFetch (clearWait s) = .word f w s1 := hf
    exact step_of_fetch hb hw (by simp [ht]) (by simp only [fetchInstr, clearWait_tasks, ht, hf, hd])
  · have hf : zipFetch (clearWait s) = .word f w s1 := hf
    exact step_of_fetch hb hw (by simp [ht]) (by simp only [fetchInstr, clearWait_tasks, ht, hf, hd])
  · simp [runOn, hb, hw]
  · rcases h with h | h <;> simp [runOn, h]

/-! ## Host accesses -/

/-- With the engine not moving, a host action that is no command is the step. -/
theorem step_of_hostAct {s : State} {a : HostAct} {rest : List HostAct} (hm : engineMoves s = false)
    (hh : s.host = a :: rest) (hc : cmdWrite a { s with host := rest } = none) :
    step s = .next (hostAct a { s with host := rest }) := by
  simp [step, hm, hh, hostStep, hc]

/-- A whole write outside CMD. -/
theorem step_of_writeReg {s : State} {off : BitVec 8} {v : Word} {rest : List HostAct} (hm : engineMoves s = false)
    (hh : s.host = .write off 4 v :: rest) (ha : off.toNat % 4 = 0) (hc : off.toNat ≠ 4) :
    step s = .next (writeReg off v { s with host := rest }) := by
  rw [step_of_hostAct hm hh (by simp [cmdWrite, hc])]
  simp [hostAct, wholeAccess, ha, hc]

/-- A write outside CMD and the nine writable registers does nothing (R30, R110). -/
theorem writeReg_other {off : BitVec 8} (v : Word) (s : State)
    (h : off.toNat ∉ [0x00, 0x14, 0x18, 0x28, 0x2C, 0x30, 0x34, 0x38, 0x3C]) : writeReg off v s = s := by
  simp only [List.mem_cons, List.not_mem_nil, or_false, not_or] at h
  unfold writeReg
  split
  case h_10 => rfl
  all_goals exact absurd ‹off.toNat = _› (by omega)

/-- An access that is not a whole aligned register. -/
theorem wholeAccess_false {off : BitVec 8} {n : Nat} (h : n ≠ 4 ∨ off.toNat % 4 ≠ 0) : wholeAccess off n = false := by
  rcases h with h | h <;> simp [wholeAccess, h]

theorem writeReg_inData (v : Word) (s : State) :
    writeReg 0x14 v s = if s.inEnd || inFull s then s else { s with inq := s.inq ++ [v.setWidth 8] } := rfl

/-- FLUSH first, then END (log 17). -/
theorem writeReg_inCtrl (v : Word) (s : State) : writeReg 0x18 v s =
    let s1 := if v.getLsbD 1 then { s with inq := [], inEnd := false } else s
    if v.getLsbD 0 then { s1 with inEnd := true } else s1 := rfl

/-- Settles O7, register by register. -/
theorem hostWritesTakeEffectAsTheRegisterMapSays : Obligations.HostWritesTakeEffectAsTheRegisterMapSays := by
  refine ⟨fun s off v rest hm hh => ?_, fun s off n v rest hm hh ha => ?_⟩
  · have reg : ∀ o : BitVec 8, off = o → o.toNat % 4 = 0 → o.toNat ≠ 4 →
        step s = .next (writeReg o v { s with host := rest }) := fun o ho h4 hc =>
      step_of_writeReg hm (ho ▸ hh) h4 hc
    have other : off.toNat % 4 = 0 → off.toNat ≠ 4 →
        off.toNat ∉ [0x00, 0x14, 0x18, 0x28, 0x2C, 0x30, 0x34, 0x38, 0x3C] →
        step s = .next { s with host := rest } := fun h4 hc hn =>
      (reg off rfl h4 hc).trans (congrArg _ (writeReg_other v _ hn))
    refine ⟨fun hb ho => ?_, fun hb ho => ?_, fun hb ho => ?_, fun hb ho => ?_, fun hb ho => ?_, fun hb ho => ?_,
      fun hb ho => ?_, fun hb ho => ?_, fun hb ho => ?_, fun ho he hf => ?_, fun ho he hf => ?_, fun ho he => ?_,
      fun ho h0 h1 => ?_, fun ho h0 h1 => ?_, fun ho h0 h1 => ?_, fun ho h0 h1 => ?_, fun ho => ?_, fun hlo h4 => ?_⟩
    case refine_1 =>
      subst ho
      exact step_of_hostAct hm hh (by simp [cmdWrite, hb])
    case refine_2 =>
      simp only [List.mem_cons, List.not_mem_nil, or_false] at ho
      rcases ho with ho | ho | ho | ho | ho | ho | ho <;> simp [reg _ ho (by decide) (by decide), writeReg, hb]
    case refine_10 | refine_11 =>
      have hf : inFull { s with host := rest } = _ := hf
      rw [reg _ ho (by decide) (by decide), writeReg_inData, hf, he]
      rfl
    case refine_12 =>
      rw [reg _ ho (by decide) (by decide), writeReg_inData, he]
      rfl
    case refine_13 | refine_14 | refine_15 | refine_16 =>
      rw [reg _ ho (by decide) (by decide), writeReg_inCtrl, h0, h1]
      rfl
    case refine_17 =>
      simp only [List.mem_cons, List.not_mem_nil, or_false] at ho
      rcases ho with rfl | rfl | rfl | rfl | rfl | rfl | rfl | rfl | rfl | rfl <;>
        exact other (by decide) (by decide) (by decide)
    case refine_18 => exact other h4 (by omega) (by simp; omega)
    all_goals simp [reg _ ho (by decide) (by decide), writeReg, hb]
  · have hw := wholeAccess_false ha
    rw [step_of_hostAct hm hh (by simp [cmdWrite, hw])]
    simp [hostAct, hw]

/-- The word OUT_DATA gives: bit 8 above the byte (R46). -/
theorem outData_word (b : Byte) : (0x100 : Word) ||| b.setWidth 32 = BitVec.ofNat 32 (256 + b.toNat) := by
  have hb : b.toNat < 2 ^ 8 := b.isLt
  have h : (0x100 : Word).toNat ||| b.toNat = 256 + b.toNat := (Nat.two_pow_add_eq_or_of_lt hb 1).symm
  refine BitVec.eq_of_toNat_eq ?_
  rw [BitVec.toNat_or, BitVec.toNat_setWidth, BitVec.toNat_ofNat, Nat.mod_eq_of_lt (a := b.toNat) (by omega), h,
    Nat.mod_eq_of_lt (by omega)]

theorem readReg_inCtrl (s : State) : readReg 0x18 s = if s.inEnd = true then 1 else 0 := by
  show bitAt s.inEnd 0 = _
  cases s.inEnd <;> rfl

theorem readReg_outData (s : State) : readReg 0x20 s =
    match s.outq with
    | [] => 0
    | b :: _ => (0x100 : Word) ||| b.setWidth 32 := rfl

/-- A whole read other than of OUT_DATA returns the register and changes nothing else. -/
theorem step_of_readReg {s : State} {off : BitVec 8} {rest : List HostAct} (hm : engineMoves s = false)
    (hh : s.host = .read off 4 :: rest) (h4 : off.toNat % 4 = 0) (ho : off.toNat ≠ 0x20) :
    step s = .next { s with host := rest, rdata := readReg off s } := by
  rw [step_of_hostAct hm hh rfl]
  simp only [hostAct, hostRead, wholeAccess, h4, ho]
  rfl

/-- A whole read of OUT_DATA also removes what it returns (R114). -/
theorem step_of_readOut {s : State} {rest : List HostAct} (hm : engineMoves s = false)
    (hh : s.host = .read 0x20 4 :: rest) :
    step s = .next { s with host := rest, rdata := readReg 0x20 s, outq := s.outq.tail } :=
  step_of_hostAct hm hh rfl

/-- A reserved offset reads 0 (R110). -/
theorem readReg_reserved {off : BitVec 8} (s : State) (h : 0x50 ≤ off.toNat) : readReg off s = 0 := by
  unfold readReg
  split
  case h_19 => rfl
  all_goals exact absurd ‹off.toNat = _› (by omega)

/-- Settles O8, register by register. -/
theorem hostReadsReturnTheRegister : Obligations.HostReadsReturnTheRegister := by
  refine ⟨fun s off rest hm hh => ?_, fun s off n rest hm hh ha => ?_⟩
  · have reg : ∀ o : BitVec 8, off = o → o.toNat % 4 = 0 → o.toNat ≠ 0x20 →
        step s = .next { s with host := rest, rdata := readReg o s } := fun o ho h4 hc =>
      step_of_readReg hm (ho ▸ hh) h4 hc
    refine ⟨fun ho => ?_, fun ho => ?_, fun ho => ?_, fun ho => ?_, fun ho => ?_, fun ho => ?_, fun ho hq => ?_,
      fun b bs ho hq => ?_, fun ho => ?_, fun ho => ?_, fun ho => ?_, fun ho => ?_, fun ho => ?_, fun ho => ?_,
      fun ho => ?_, fun ho => ?_, fun ho => ?_, fun ho => ?_, fun ho => ?_, fun ho => ?_, fun hlo h4 => ?_⟩
    case refine_5 =>
      rw [reg _ ho (by decide) (by decide), readReg_inCtrl]
    case refine_7 =>
      rw [step_of_readOut hm (ho ▸ hh)]
      simp only [readReg_outData, hq, List.tail_nil]
    case refine_8 =>
      rw [step_of_readOut hm (ho ▸ hh)]
      simp only [readReg_outData, hq, outData_word, List.tail_cons]
    case refine_20 => rcases ho with ho | ho <;> exact reg _ ho (by decide) (by decide)
    case refine_21 => rw [reg off rfl h4 (by omega), readReg_reserved s hlo]
    all_goals exact reg _ ho (by decide) (by decide)
  · have hw := wholeAccess_false ha
    rw [step_of_hostAct hm hh rfl]
    simp [hostAct, hostRead, hw]

/-! ## The report of a raise -/

/-- The class ranges of the tables R601-R605. -/
theorem Err.cls_range (e : Err) :
    (e.cls = 1 ∧ 0x01 ≤ e.code ∧ e.code ≤ 0x12) ∨ (e.cls = 2 ∧ 0x20 ≤ e.code ∧ e.code ≤ 0x21) ∨
    (e.cls = 3 ∧ 0x30 ≤ e.code ∧ e.code ≤ 0x35) ∨ (e.cls = 4 ∧ 0x40 ≤ e.code ∧ e.code ≤ 0x4B ∧ e.code ≠ 0x41) ∨
    (e.cls = 5 ∧ 0x50 ≤ e.code ∧ e.code ≤ 0x52) := by cases e <;> decide

theorem Err.isUsage_eq (e : Err) : e.isUsage = decide (e.cls = 4) := rfl

/-- Settles O53: a UsageError sets UERR, every other class ERR. -/
theorem raiseReportsTheError : Obligations.RaiseReportsTheError := by
  refine ⟨fun e info s => ?_, Err.cls_range⟩
  by_cases hu : e.cls = 4 <;> simp [raiseErr, complete, Err.word, Err.isUsage_eq, hu]

end Sys2Proof.Machine
end

section
/-! PROOFS. The encoder and the decoder, format by format (30_encoding.md): the fields of a command word read back, a symbol and its
extra bits come apart, and a word of the symbol formats has no other reading. -/

namespace Sys2Proof

/-! ## The fields of a command word (R141) -/

theorem cmdWord_toNat {opc : Nat} (n : BitVec 8) (imm : BitVec 16) (h : opc < 256) :
    (BitVec.ofNat 32 (cmdWord opc n imm).2).toNat = opc + 256 * n.toNat + 65536 * imm.toNat := by
  have hn := n.isLt
  have hi := imm.isLt
  exact Nat.mod_eq_of_lt (by simp only [cmdWord]; omega)

theorem cmdOpc_cmdWord {opc : Nat} (n : BitVec 8) (imm : BitVec 16) (h : opc < 256) :
    cmdOpc (BitVec.ofNat 32 (cmdWord opc n imm).2) = opc := by
  rw [cmdOpc, BitVec.extractLsb'_toNat, cmdWord_toNat n imm h]
  simp only [Nat.shiftRight_zero]
  omega

theorem cmdN_cmdWord {opc : Nat} (n : BitVec 8) (imm : BitVec 16) (h : opc < 256) :
    cmdN (BitVec.ofNat 32 (cmdWord opc n imm).2) = n := by
  have hn := n.isLt
  apply BitVec.eq_of_toNat_eq
  rw [cmdN, BitVec.extractLsb'_toNat, cmdWord_toNat n imm h, Nat.shiftRight_eq_div_pow]
  omega

theorem cmdImm_cmdWord {opc : Nat} (n : BitVec 8) (imm : BitVec 16) (h : opc < 256) :
    cmdImm (BitVec.ofNat 32 (cmdWord opc n imm).2) = imm := by
  have hn := n.isLt
  have hi := imm.isLt
  apply BitVec.eq_of_toNat_eq
  rw [cmdImm, BitVec.extractLsb'_toNat, cmdWord_toNat n imm h, Nat.shiftRight_eq_div_pow]
  omega

/-- The command word's format. -/
@[simp] theorem cmdWord_fst (opc : Nat) (n : BitVec 8) (imm : BitVec 16) : (cmdWord opc n imm).1 = .cmd := rfl

/-! ## A symbol and its extra bits (R164) -/

theorem symbol_mod {b v : Nat} (e : Nat) (h : v < b) : (v + b * e) % b = v := by
  rw [Nat.add_mul_mod_self_left, Nat.mod_eq_of_lt h]

theorem symbol_div {b v : Nat} (e : Nat) (h : v < b) : (v + b * e) / b = e := by
  rw [Nat.add_mul_div_left _ _ (by omega), Nat.div_eq_of_lt h, Nat.zero_add]

@[simp] theorem noExtra_zero (i : Instr) : noExtra 0 i = .ok i := rfl

theorem withExtra_fits {k e : Nat} {c : Nat → Instr} (h : fitsExtra k e = true) : withExtra k e c = .ok (c e) :=
  if_pos (of_decide_eq_true h)

theorem noExtra_eq_ok {e : Nat} {i j : Instr} (h : noExtra e i = .ok j) : e = 0 ∧ i = j := by
  unfold noExtra at h
  split at h
  · exact ⟨‹_›, Except.ok.inj h⟩
  · cases h

theorem withExtra_eq_ok {k e : Nat} {c : Nat → Instr} {j : Instr} (h : withExtra k e c = .ok j) :
    fitsExtra k e = true ∧ c e = j := by
  unfold withExtra at h
  split at h
  · exact ⟨decide_eq_true ‹_›, Except.ok.inj h⟩
  · cases h

/-! ## The zlib wrapper (R150, R152) -/

theorem decode_zhdr (c : BitVec 4) (f : Byte) :
    decode .zhdr (8 + 16 * c.toNat + 256 * f.toNat) = .ok (.zlibHeader c f) := by
  have hc := c.isLt
  have hf := f.isLt
  have hcm : (8 + 16 * c.toNat + 256 * f.toNat) % 16 = 8 := by omega
  have hinfo : BitVec.ofNat 4 ((8 + 16 * c.toNat + 256 * f.toNat) / 16) = c :=
    BitVec.eq_of_toNat_eq (by rw [BitVec.toNat_ofNat]; omega)
  have hflg : BitVec.ofNat 8 ((8 + 16 * c.toNat + 256 * f.toNat) / 256) = f :=
    BitVec.eq_of_toNat_eq (by rw [BitVec.toNat_ofNat]; omega)
  rw [decode, decodeZhdr, if_pos hcm, hinfo, hflg]

theorem wordBytes_of {b0 b1 b2 b3 : Nat} (h0 : b0 < 256) (h1 : b1 < 256) (h2 : b2 < 256) (h3 : b3 < 256) :
    wordBytes (b0 + b1 * 256 + b2 * 65536 + b3 * 16777216) = (b0, b1, b2, b3) := by
  simp only [wordBytes, Prod.mk.injEq]
  omega

theorem decode_ztrl (a : Word) : decode (encode (.zlibTrailer a)).1 (encode (.zlibTrailer a)).2 = .ok (.zlibTrailer a) := by
  have ha := a.isLt
  have hb : wordBytes (encode (.zlibTrailer a)).2 =
      (a.toNat / 16777216, a.toNat / 65536 % 256, a.toNat / 256 % 256, a.toNat % 256) :=
    wordBytes_of (by omega) (by omega) (by omega) (by omega)
  show decodeZtrl (encode (.zlibTrailer a)).2 = _
  rw [decodeZtrl, hb]
  refine congrArg (fun x => Except.ok (Instr.zlibTrailer x)) (BitVec.eq_of_toNat_eq ?_)
  simp only [BitVec.toNat_ofNat]
  omega

/-! ## The symbols that carry their value -/

theorem decode_lit (b : Byte) : decode .litlen b.toNat = .ok (.lit b) := by
  have hb := b.isLt
  have hm : b.toNat % 512 < 256 := by omega
  have hd : b.toNat / 512 = 0 := by omega
  simp only [decode, decodeLitlen, hm, if_true, hd, noExtra_zero, BitVec.ofNat_toNat, BitVec.setWidth_eq]

theorem decode_clLen {v : Nat} (h : fitsExtra 4 v = true) : decode .clen v = .ok (.clLen v) := by
  have hv : v < 16 := of_decide_eq_true h
  have hm : v % 32 = v := Nat.mod_eq_of_lt (by omega)
  have hd : v / 32 = 0 := by omega
  simp only [decode, decodeClen, hm, hv, if_true, hd, noExtra_zero]

/-! ## Decoding what was encoded -/

/-- Settles O1: a command by the three fields of its word, a symbol by its value and its extra bits. -/
theorem decodeOfEncodeIsIdentity : Obligations.DecodeOfEncodeIsIdentity := by
  intro i hw
  cases i
  case blockStored b | blockFixed b | blockDynamic b | blockReserved b | litlenReserved b | distReserved b =>
    cases b <;> rfl
  case lit b => exact decode_lit b
  case clLen v => exact decode_clLen hw
  case zlibHeader c f => exact decode_zhdr c f
  case zlibTrailer a => exact decode_ztrl a
  case hencReset | hencRecord | hencBuildTree | hencBuildCodes | hencEncode | hencEstimate | hencQuery | hdecBuild |
      hdecBuildFixed | hdecDecode | bwWriteBits | bwWriteShortLe | bwWriteShortBe | brPeek | brSkip =>
    simp [encode, decode, decodeCmd, cmdOpc_cmdWord, cmdN_cmdWord, cmdImm_cmdWord]
  case len265 | len266 | len267 | len268 | len269 | len270 | len271 | len272 | len273 | len274 | len275 | len276 |
      len277 | len278 | len279 | len280 | len281 | len282 | len283 | len284 =>
    simp [encode, decode, decodeLitlen, symbol_div, withExtra_fits hw]
  case dist4 | dist5 | dist6 | dist7 | dist8 | dist9 | dist10 | dist11 | dist12 | dist13 | dist14 | dist15 | dist16 |
      dist17 | dist18 | dist19 | dist20 | dist21 | dist22 | dist23 | dist24 | dist25 | dist26 | dist27 | dist28 |
      dist29 =>
    simp [encode, decode, decodeDist, symbol_div, withExtra_fits hw]
  case clRepeatPrev | clZeroShort | clZeroLong =>
    simp [encode, decode, decodeClen, symbol_div, withExtra_fits hw]
  all_goals rfl

/-! ## One reading of a wire word -/

/-- A symbol without extra bits read from a word is the whole word. -/
theorem encode_of_noExtra {f : Fmt} {b v w : Nat} {i j : Instr} (hv : w % b = v) (hi : encode i = (f, v))
    (hwf : i.wellFormed = true) (h : noExtra (w / b) i = .ok j) : encode j = (f, w) ∧ j.wellFormed = true := by
  obtain ⟨he, rfl⟩ := noExtra_eq_ok h
  have hw : w = v := by rw [← Nat.div_add_mod w b, he, hv, Nat.mul_zero, Nat.zero_add]
  rw [hw]
  exact ⟨hi, hwf⟩

/-- A symbol with extra bits read from a word is the whole word. -/
theorem encode_of_withExtra {f : Fmt} {b k v w : Nat} {c : Nat → Instr} {j : Instr} (hv : w % b = v)
    (hc : ∀ e, encode (c e) = (f, v + b * e)) (hwf : ∀ e, (c e).wellFormed = fitsExtra k e)
    (h : withExtra k (w / b) c = .ok j) : encode j = (f, w) ∧ j.wellFormed = true := by
  obtain ⟨hfit, rfl⟩ := withExtra_eq_ok h
  rw [hc, hwf, ← hv, Nat.mod_add_div]
  exact ⟨rfl, hfit⟩

theorem encode_of_decodeBhdr {w : Nat} {i : Instr} (h : decodeBhdr w = .ok i) : encode i = (.bhdr, w) ∧ i.wellFormed = true := by
  have hw : w = 2 * (w / 2) + (w % 2 == 1).toNat := by
    rcases Nat.mod_two_eq_zero_or_one w with h2 | h2 <;> simp [h2] <;> omega
  unfold decodeBhdr at h
  split at h
  case h_5 => cases h
  all_goals
    obtain rfl := Except.ok.inj h
    refine ⟨Prod.ext rfl ?_, rfl⟩
    simp only [encode]
    omega

theorem encode_of_decodeLitlen {w : Nat} {i : Instr} (h : decodeLitlen w = .ok i) :
    encode i = (.litlen, w) ∧ i.wellFormed = true := by
  unfold decodeLitlen at h
  split at h
  case isTrue hlit =>
    have hb : (BitVec.ofNat 8 w).toNat = w % 512 := by rw [BitVec.toNat_ofNat]; omega
    exact encode_of_noExtra (i := .lit (BitVec.ofNat 8 w)) rfl (congrArg (Prod.mk Fmt.litlen) hb) rfl h
  case isFalse =>
    split at h
    case h_33 => cases h
    case h_10 | h_11 | h_12 | h_13 | h_14 | h_15 | h_16 | h_17 | h_18 | h_19 | h_20 | h_21 | h_22 | h_23 | h_24 | h_25
        | h_26 | h_27 | h_28 | h_29 =>
      exact encode_of_withExtra ‹_› (fun _ => rfl) (fun _ => rfl) h
    all_goals exact encode_of_noExtra ‹_› rfl rfl h

theorem encode_of_decodeDist {w : Nat} {i : Instr} (h : decodeDist w = .ok i) :
    encode i = (.dist, w) ∧ i.wellFormed = true := by
  unfold decodeDist at h
  split at h
  case h_33 => cases h
  case h_5 | h_6 | h_7 | h_8 | h_9 | h_10 | h_11 | h_12 | h_13 | h_14 | h_15 | h_16 | h_17 | h_18 | h_19 | h_20 |
      h_21 | h_22 | h_23 | h_24 | h_25 | h_26 | h_27 | h_28 | h_29 | h_30 =>
    exact encode_of_withExtra ‹_› (fun _ => rfl) (fun _ => rfl) h
  all_goals exact encode_of_noExtra ‹_› rfl rfl h

theorem encode_of_decodeClen {w : Nat} {i : Instr} (h : decodeClen w = .ok i) :
    encode i = (.clen, w) ∧ i.wellFormed = true := by
  unfold decodeClen at h
  split at h
  case isTrue hlen => exact encode_of_noExtra (i := .clLen (w % 32)) rfl rfl (decide_eq_true hlen) h
  case isFalse =>
    split at h
    case h_4 => cases h
    all_goals exact encode_of_withExtra ‹_› (fun _ => rfl) (fun _ => rfl) h

/-- Settles O2, format by format. -/
theorem wireWordHasOneReading : Obligations.WireWordHasOneReading := by
  rintro f w i (rfl | rfl | rfl | rfl) h
  · exact encode_of_decodeBhdr h
  · exact encode_of_decodeLitlen h
  · exact encode_of_decodeDist h
  · exact encode_of_decodeClen h

/-- Settles O3: each word is decoded by evaluation. -/
theorem writtenWordsDecode : Obligations.WrittenWordsDecode := by
  unfold Obligations.WrittenWordsDecode
  decide

end Sys2Proof
end

section
/-! PROOFS. The commands that check, return and never run a task: an unassigned opcode (30_encoding.md R144), the Huffman encoder's tree
registers (43_huffman_encoder.md), the Huffman decoder (44_huffman_decoder.md) and the match finder (46_lz77_compressor.md). -/

namespace Sys2Proof.Machine

/-! ## An unassigned opcode (R144, R202) -/

/-- The ranges of OPC that R143 leaves unassigned. -/
def unassigned (opc : Nat) : Prop :=
  (0x02 ≤ opc ∧ opc ≤ 0x0F) ∨ (0x12 ≤ opc ∧ opc ≤ 0x1F) ∨ (0x22 ≤ opc ∧ opc ≤ 0x2F) ∨ (0x37 ≤ opc ∧ opc ≤ 0x3F) ∨
    (0x43 ≤ opc ∧ opc ≤ 0x4F) ∨ (0x5A ≤ opc ∧ opc ≤ 0x5F) ∨ (0x69 ≤ opc ∧ opc ≤ 0x6F) ∨ (0x74 ≤ opc ∧ opc ≤ 0x7F) ∨
    (0x84 ≤ opc ∧ opc ≤ 0x8F) ∨ (0x93 ≤ opc ∧ opc ≤ 0x9F) ∨ 0xAF ≤ opc

theorem decodeCmd_unassigned {w : Word} (h : unassigned (cmdOpc w)) :
    decodeCmd w = .error (.unassignedOpcode (cmdOpc w)) := by
  unfold unassigned at h
  unfold decodeCmd
  split
  case h_62 => rfl
  all_goals omega

/-- A CMD write to an idle block issues its word. -/
theorem step_of_cmdWrite {s : State} {w : Word} {rest : List HostAct} (hb : s.busy = false)
    (hh : s.host = .write 0x04 4 w :: rest) : step s = runLatched (issue w { s with host := rest }) := by
  have hm : engineMoves s = false := by simp [engineMoves, hb]
  have hc : cmdWrite (.write 0x04 4 w) { s with host := rest } = some w := by simp [cmdWrite, wholeAccess, hb]
  simp only [step, hm, hh, hostStep, hc]
  rfl

/-- Settles O4: no instruction is decoded, and the issued command is reported. -/
theorem unassignedOpcodeIsIllegal : Obligations.UnassignedOpcodeIsIllegal := by
  intro s w rest hb hh hopc
  rw [step_of_cmdWrite hb hh]
  simp only [runLatched, issue_latCmd, decodeCmd_unassigned (w := w) hopc]
  rfl

/-! ## The trees (43_huffman_encoder.md R251, R252, R260, R261) -/

/-- A command on a tree. -/
theorem finish_henc {opc : Nat} {s : State} {t : BitVec 8} {k : Sel} {f : State → Sel → Res} (ht : selOf t = some k)
    (ha : s.defl.phase.active = false) :
    finish (fun s => hencPrologue opc t s (f s)) s = .next (settle (f (begun s) k)) := by
  rw [finish, hencPrologue_some ht (s := begun s) ha]

/-- A command whose N is no tree. -/
theorem finish_henc_none {opc : Nat} {s : State} {t : BitVec 8} {f : State → Sel → Res} (ht : 2 < t.toNat)
    (ha : s.defl.phase.active = false) :
    finish (fun s => hencPrologue opc t s (f s)) s = .next (raiseErr .badArg (toWord opc) s) :=
  finish_refuse (hencPrologue_none (s := begun s) (selOf_none ht) ha)

section Tree

variable {s : State} {t : BitVec 8} {k : Sel} (ht : selOf t = some k) (ha : s.defl.phase.active = false)

include ht ha

theorem exec_hencReset : exec (.hencReset t) s = .next (complete (setTree s k (HTree.reset k.nsym))) := by
  show execHencReset t s = _
  rw [execHencReset, finish_henc ht ha, settle_ok, complete_setTree_begun]

theorem exec_hencEstimate : exec (.hencEstimate t) s = .next (complete { s with res := { s.res with
    r0 := toWord (dot ((getTree s k).freq.map BitVec.toNat) (getTree s k).len) } }) := by
  show execHencEstimate t s = _
  rw [execHencEstimate, finish_henc ht ha, getTree_begun]
  rfl

theorem exec_hencRecord {sym : BitVec 16} (hsym : sym.toNat < k.nsym) :
    exec (.hencRecord t sym) s = .next (complete (setTree s k { getTree s k with
      freq := setAt (getTree s k).freq sym.toNat ((getTree s k).freq.getD sym.toNat 0 + 1) })) := by
  show execHencRecord t sym s = _
  rw [execHencRecord, finish_henc ht ha, decide_eq_false (Nat.not_le.2 hsym), guardErr_false, settle_ok, getTree_begun,
    complete_setTree_begun]

theorem exec_hencRecord_badArg {sym : BitVec 16} (hsym : k.nsym ≤ sym.toNat) :
    exec (.hencRecord t sym) s = .next (raiseErr .badArg 0x31 s) := by
  show execHencRecord t sym s = _
  rw [execHencRecord, finish_henc ht ha, decide_eq_true hsym]
  rfl

theorem exec_hencQuery_badArg {sym : BitVec 16} (hsym : k.nsym ≤ sym.toNat) :
    exec (.hencQuery t sym) s = .next (raiseErr .badArg 0x36 s) := by
  show execHencQuery t sym s = _
  rw [execHencQuery, finish_henc ht ha, decide_eq_true hsym]
  rfl

/-- A tree that is not refused is read. -/
theorem exec_hencQuery_read {sym : BitVec 16} (hsym : sym.toNat < k.nsym)
    (hb : (!(getTree s k).tBuilt && Config.queryRefused) = false) :
    exec (.hencQuery t sym) s = .next (complete { s with res := ⟨(getTree s k).freq.getD sym.toNat 0,
      toWord ((getTree s k).len.getD sym.toNat 0), toWord ((getTree s k).code.getD sym.toNat 0),
      toWord ((getTree s k).blCount.getD (s.lat.r0.toNat % 16) 0)⟩ }) := by
  show execHencQuery t sym s = _
  rw [execHencQuery, finish_henc ht ha, decide_eq_false (Nat.not_le.2 hsym), guardErr_false, getTree_begun, hb,
    guardErr_false]
  rfl

theorem exec_hencQuery_refused {sym : BitVec 16} (hsym : sym.toNat < k.nsym) (hb : (getTree s k).tBuilt = false)
    (hq : Config.queryRefused = true) : exec (.hencQuery t sym) s = .next (raiseErr .notBuilt 0x36 s) := by
  show execHencQuery t sym s = _
  rw [execHencQuery, finish_henc ht ha, decide_eq_false (Nat.not_le.2 hsym), guardErr_false, getTree_begun, hb, hq]
  rfl

end Tree

/-- Settles O16, command by command. -/
theorem encoderTreeRegisters : Obligations.EncoderTreeRegisters := by
  refine ⟨fun s t k ht ha => ⟨exec_hencReset ht ha, exec_hencEstimate ht ha,
    fun sym hsym => ⟨exec_hencRecord ht ha hsym, fun hb => exec_hencQuery_read ht ha hsym (by simp [hb]), fun hb => ?_⟩,
    fun sym hsym => ⟨exec_hencRecord_badArg ht ha hsym, exec_hencQuery_badArg ht ha hsym⟩⟩, fun s t sym ht ha => ?_⟩
  · cases hq : Config.queryRefused with
    | true => exact exec_hencQuery_refused ht ha hsym hb hq
    | false => exact exec_hencQuery_read ht ha hsym (by simp [hq])
  · refine ⟨?_, ?_, ?_, ?_⟩
    · show execHencReset t s = _
      exact finish_henc_none ht ha
    · show execHencRecord t sym s = _
      exact finish_henc_none ht ha
    · show execHencEstimate t s = _
      exact finish_henc_none ht ha
    · show execHencQuery t sym s = _
      exact finish_henc_none ht ha

/-! ## The decoder's tables (44_huffman_decoder.md R292, R293) -/

theorem hdecPrologue_some {opc : Nat} {t : BitVec 8} {s : State} {f : Sel → Res} {k : Sel} (ht : selOf t = some k)
    (ha : s.infl.phase.active = false) : hdecPrologue opc t s f = f k := by
  simp [hdecPrologue, ha, ht]

/-- A command whose N is no table. -/
theorem finish_hdec_none {opc : Nat} {s : State} {t : BitVec 8} {f : State → Sel → Res} (ht : 2 < t.toNat)
    (ha : s.infl.phase.active = false) :
    finish (fun s => hdecPrologue opc t s (f s)) s = .next (raiseErr .badArg (toWord opc) s) := by
  refine finish_refuse ?_
  simp [hdecPrologue, ha, selOf_none ht]

@[simp] theorem getTable_begun (s : State) (k : Sel) : getTable (begun s) k = getTable s k := by cases k <;> rfl

/-- What HDEC_BUILD does with the bytes taken (R292). -/
def tableTaken (k : Sel) (b : Bytes) (s : State) : Res :=
  if (b.map BitVec.toNat).any (fun l => decide (15 < l)) then refuse .badArg 0x40 (unbuild k s)
  else match buildTable (b.map BitVec.toNat) with
    | none => refuse .huffOversubscribed 0x40 (unbuild k s)
    | some d => .ok (setRes [(0, toWord (kraft (b.map BitVec.toNat)))] (setTable s k d))

theorem tableTaken_long {k : Sel} {b : Bytes} {s : State} (h : ∃ l ∈ b.map BitVec.toNat, 15 < l) :
    tableTaken k b s = refuse .badArg 0x40 (unbuild k s) :=
  if_pos (by simpa using h)

theorem buildTable_some {len : List Nat} (h : kraft len ≤ 32768) : buildTable len = some ⟨len, true⟩ :=
  if_neg (Nat.not_lt.2 h)

theorem buildTable_none {len : List Nat} (h : 32768 < kraft len) : buildTable len = none := if_pos h

theorem tableTaken_built {k : Sel} {b : Bytes} {s : State} (h : ∀ l ∈ b.map BitVec.toNat, l ≤ 15)
    (hk : kraft (b.map BitVec.toNat) ≤ 32768) : tableTaken k b s =
      .ok (setRes [(0, toWord (kraft (b.map BitVec.toNat)))] (setTable s k ⟨b.map BitVec.toNat, true⟩)) := by
  rw [tableTaken, if_neg (by simpa using h), buildTable_some hk]

theorem tableTaken_oversubscribed {k : Sel} {b : Bytes} {s : State} (h : ∀ l ∈ b.map BitVec.toNat, l ≤ 15)
    (hk : 32768 < kraft (b.map BitVec.toNat)) : tableTaken k b s = refuse .huffOversubscribed 0x40 (unbuild k s) := by
  rw [tableTaken, if_neg (by simpa using h), buildTable_none hk]

/-- HDEC_BUILD's pseudocode on table k. -/
def hdecBuildBody (k : Sel) (s : State) : Res :=
  guardErr (decide (k.size < argNat s 0) || overInCap s (argNat s 0)) .badArg 0x40 s <|
    takeCounted 0x40 (argNat s 0) s (tableTaken k)

/-- With no more lengths than the table has symbols only the bytes are left to be checked. -/
theorem hdecBuild_checked {s : State} {k : Sel} (hn : s.lat.r0.toNat ≤ k.size) :
    hdecBuildBody k (begun s) = guardErr (overInCap s s.lat.r0.toNat) .badArg 0x40 (begun s)
      (takeCounted 0x40 s.lat.r0.toNat (begun s) (tableTaken k)) := by
  have hb : decide (k.size < argNat (begun s) 0) = false := decide_eq_false (Nat.not_lt.2 hn)
  rw [hdecBuildBody, hb, Bool.false_or]
  rfl

section Table

variable {s : State} {t : BitVec 8} {k : Sel} (ht : selOf t = some k) (ha : s.infl.phase.active = false)

include ht ha

theorem exec_hdecBuild : exec (.hdecBuild t) s = finish (hdecBuildBody k) s :=
  congrArg (fun r => Host.Outcome.next (settle r)) (hdecPrologue_some ht (s := begun s) ha)

theorem exec_hdecBuild_badArg (hn : k.size < s.lat.r0.toNat) :
    exec (.hdecBuild t) s = .next (raiseErr .badArg 0x40 s) := by
  have hb : decide (k.size < argNat (begun s) 0) = true := decide_eq_true hn
  rw [exec_hdecBuild ht ha, finish, hdecBuildBody, hb]
  rfl

theorem exec_hdecBuild_taken (hn : s.lat.r0.toNat ≤ k.size) (hc : overInCap s s.lat.r0.toNat = false)
    (hk : s.lat.r0.toNat ≤ s.inq.length) : exec (.hdecBuild t) s = .next (settle (tableTaken k (s.inq.take s.lat.r0.toNat)
      { begun s with inq := s.inq.drop s.lat.r0.toNat })) := by
  rw [exec_hdecBuild ht ha]
  exact finish_of (counted_enough (hdecBuild_checked hn) hc hk)

end Table

theorem exec_hdecBuildFixed {s : State} {t : BitVec 8} {k : Sel} (ht : selOf t = some k) (ha : s.infl.phase.active = false) :
    exec (.hdecBuildFixed t) s = .next (match k with
      | .zero => complete { s with d0 := ⟨fixedLL, true⟩ }
      | .one => complete { s with d1 := ⟨fixedD, true⟩ }
      | .two => raiseErr .badArg 0x41 s) := by
  show execHdecBuildFixed t s = _
  rw [execHdecBuildFixed, finish, hdecPrologue_some ht (s := begun s) ha]
  cases k <;> rfl

/-- Settles O22: Build takes any list of lengths up to 15 whose Kraft sum is at most 1. -/
theorem decoderBuildsTables : Obligations.DecoderBuildsTables := by
  refine ⟨fun s t k ht ha => ⟨⟨fun hn hc hk h15 hkraft => ?_, fun hn hc hk h15 hkraft => ?_, fun hn hc hk hlong => ?_,
    fun hn => countedRefusals_finish (exec_hdecBuild ht ha) (hdecBuild_checked hn), exec_hdecBuild_badArg ht ha⟩,
    ?_, ?_, ?_⟩, fun s t ht ha => ⟨?_, ?_⟩⟩
  · rw [exec_hdecBuild_taken ht ha hn hc hk, tableTaken_built h15 hkraft]
    cases k <;> rfl
  · rw [exec_hdecBuild_taken ht ha hn hc hk, tableTaken_oversubscribed h15 hkraft]
    cases k <;> rfl
  · rw [exec_hdecBuild_taken ht ha hn hc hk, tableTaken_long hlong]
    cases k <;> rfl
  iterate 3
    rintro rfl
    exact exec_hdecBuildFixed ht ha
  · show execHdecBuild t s = _
    exact finish_hdec_none ht ha
  · show execHdecBuildFixed t s = _
    exact finish_hdec_none ht ha

/-! ## One symbol (44_huffman_decoder.md R294) -/

/-- HDEC_DECODE on what Decode finds (R294, R295). -/
def decodedRes (len : List Nat) (r : Decoded × BitSrc) (s : State) : Res :=
  match r with
  | (.sym k, b) => .ok (setRes [(0, toWord k), (1, 0)] (brPut s b))
  | (.invalid, b) => refuse .huffInvalidCode 0x42 (brPut s b)
  | (.short, b) =>
    if shortIsPrefix len b then .ok (setRes [(0, 0), (1, 1)] (brPut s b)) else refuse .huffInvalidCode 0x42 (brPut s b)

theorem exec_hdecDecode {s : State} {t : BitVec 8} {k : Sel} (ht : selOf t = some k) (ha : s.infl.phase.active = false) :
    exec (.hdecDecode t) s = .next (settle (guardErr (!(getTable s k).built) .notBuilt 0x42 (begun s)
      (decodedRes (getTable s k).len (decodeSym (getTable s k).len (brSrc s)) (begun s)))) := by
  show execHdecDecode t s = _
  rw [execHdecDecode, finish, hdecPrologue_some ht (s := begun s) ha, getTable_begun]
  rfl

/-- Settles O23: what Decode finds, and where the bits held only begin a code. -/
theorem decodeCommandReadsOneSymbol : Obligations.DecodeCommandReadsOneSymbol := by
  refine ⟨fun s t k ht ha => ⟨fun hb y b hd => ?_, fun hb b hd hp => ?_, fun hb b hd => ?_, fun hb => ?_⟩,
    fun s t ht ha => ?_⟩
  · rw [exec_hdecDecode ht ha, hb, brSrc, hd]
    rfl
  · rw [exec_hdecDecode ht ha, hb, brSrc, hd]
    simp only [decodedRes, hp]
    rfl
  · rw [exec_hdecDecode ht ha, hb, brSrc]
    rcases hd with hd | ⟨hd, hp⟩
    · rw [hd]
      rfl
    · simp only [hd, decodedRes, hp]
      rfl
  · rw [exec_hdecDecode ht ha, hb]
    rfl
  · show execHdecDecode t s = _
    exact finish_hdec_none ht ha

/-! ## The match finder (46_lz77_compressor.md R372-R374) -/

/-- LZ_LOAD's pseudocode after its prologue. -/
def lzLoadBody (s : State) : Res :=
  guardErr (decide (Config.winCap - s.lz.strStart - s.lz.lookahead < argNat s 0) || overInCap s (argNat s 0)) .badArg 0x71 s <|
    takeCounted 0x71 (argNat s 0) s fun b s =>
      .ok (setRes [(0, toWord (s.lz.load b).lookahead)] { s with lz := s.lz.load b })

/-- LZ_FIND's result on a candidate and the match found (R374). -/
def foundRes (cand : Nat) (r : Nat × Nat) (s : State) : Res :=
  if 3 ≤ r.1 then .ok (setRes [(0, toWord r.1), (1, toWord (s.lz.strStart - r.2)), (2, toWord cand)] s)
  else .ok (setRes [(0, 0), (1, 0), (2, toWord cand)] s)

/-- With room in the window only the bytes are left to be checked. -/
theorem lzLoad_checked {s : State} (hk : s.lat.r0.toNat ≤ 65536 - s.lz.strStart - s.lz.lookahead) :
    lzLoadBody (begun s) = guardErr (overInCap s s.lat.r0.toNat) .badArg 0x71 (begun s)
      (takeCounted 0x71 s.lat.r0.toNat (begun s) fun b s =>
        .ok (setRes [(0, toWord (s.lz.load b).lookahead)] { s with lz := s.lz.load b })) := by
  have hb : decide (Config.winCap - (begun s).lz.strStart - (begun s).lz.lookahead < argNat (begun s) 0) = false :=
    decide_eq_false (Nat.not_lt.2 hk)
  rw [lzLoadBody, hb, Bool.false_or]
  rfl

section MatchFinder

variable {s : State} (ha : s.defl.phase.active = false)

include ha

theorem exec_lzReset : exec .lzReset s = .next (settle
    (guardErr (ctrlBad s) .badArg 0x70 (begun s) (.ok (windowReset (latchParams (begun s)))))) := by
  show execLzReset s = _
  rw [execLzReset, finish_deflFree ha]
  rfl

theorem exec_lzLoad : exec .lzLoad s = finish lzLoadBody s := by
  show execLzLoad s = _
  rw [execLzLoad, finish_deflFree ha]
  rfl

theorem exec_lzFind (cand : Nat) (r : Nat × Nat)
    (hcand : cand = if 3 ≤ s.lz.lookahead then headAt s.lz (hash3 s.lz s.lz.strStart) else 0)
    (hr : r = if cand ≠ 0 ∧ s.lz.strStart - cand ≤ Config.maxDist then
      longest s.lz s.defl.params s.lz.strStart cand s.lat.r0.toNat else (2, 0)) :
    exec .lzFind s = .next (settle
      (guardErr (decide (258 < s.lat.r0.toNat)) .badArg 0x72 (begun s) (foundRes cand r (begun s)))) := by
  show execLzFind s = _
  rw [execLzFind, finish_deflFree ha, hr, hcand]
  rfl

end MatchFinder

/-- Settles O31, command by command. -/
theorem matchFinderResetLoadAndFind : Obligations.MatchFinderResetLoadAndFind := by
  refine fun s ha => ⟨fun hc => ?_, fun hc => ?_, fun hk hc hin => ?_, fun hk =>
    countedRefusals_finish (exec_lzLoad ha) (lzLoad_checked hk), fun hk => ?_, fun hk => ?_,
    fun hk cand l st hcand hr => ⟨fun hl => ?_, fun hl => ?_⟩⟩
  · rw [exec_lzReset ha, hc]
    rfl
  · rw [exec_lzReset ha, hc]
    rfl
  · have hlen : (s.inq.take s.lat.r0.toNat).length = s.lat.r0.toNat := List.length_take_of_le hin
    rw [exec_lzLoad ha, finish, counted_enough (lzLoad_checked hk) hc hin]
    simp only [begun_inq, begun_lz, Lz.load, hlen]
    rfl
  · have hb : decide (Config.winCap - (begun s).lz.strStart - (begun s).lz.lookahead < argNat (begun s) 0) = true :=
      decide_eq_true hk
    rw [exec_lzLoad ha, finish, lzLoadBody, hb]
    rfl
  · rw [exec_lzFind ha _ _ rfl rfl, decide_eq_true hk]
    rfl
  · rw [exec_lzFind ha cand (l, st) hcand hr, decide_eq_false (Nat.not_lt.2 hk), guardErr_false, foundRes, if_pos hl]
    rfl
  · rw [exec_lzFind ha cand (l, st) hcand hr, decide_eq_false (Nat.not_lt.2 hk), guardErr_false, foundRes,
      if_neg (Nat.not_le.2 hl)]
    rfl

end Sys2Proof.Machine
end

section
/-! PROOFS. The commands that write to the bit writer (45_bitstream.md R320-R333, 43_huffman_encoder.md R255) and those that reset the
compressor and stage its input (46_lz77_compressor.md R376, R413). -/

namespace Sys2Proof.Machine

/-! ## A command that may run tasks (40_system_commands.md R202) -/

theorem launch_hold {f : State → Res} {s t : State} {w : Wait} (h : f (begun s) = .hold w t) :
    launch f s = .next { t with wait := w } := by
  rw [launch, h]

/-- A refusal finds the state as the command began. -/
theorem launch_refuse {f : State → Res} {s : State} {e : Err} {opc : Nat} (h : f (begun s) = refuse e opc (begun s)) :
    launch f s = .next (raiseErr e (toWord opc) s) := by
  rw [launch, h]
  rfl

/-- What a counted command does where its bytes are not all there, before it runs a task (30_encoding.md R146). -/
theorem countedRefusals_launch {i : Instr} {f : State → Res} {g : Bytes → State → Res} {opc k : Nat} {s : State}
    (he : exec i s = launch f s)
    (hf : f (begun s) = guardErr (overInCap s k) .badArg opc (begun s) (takeCounted opc k (begun s) g)) :
    CountedRefusals i (toWord opc) k s := by
  refine ⟨fun h => ?_, fun h hk hend => ?_, fun h hk hend => ?_⟩ <;> rw [he] <;> rw [h] at hf
  · exact launch_refuse hf
  · rw [guardErr_false, takeCounted_short (s := begun s) hk hend] at hf
    exact launch_refuse hf
  · rw [guardErr_false, takeCounted_hold (s := begun s) hk hend] at hf
    exact launch_hold hf

/-- A command that leaves no task is complete. -/
theorem run_nil {s : State} (h : s.tasks = []) : run s = complete s := drive_nil h

/-! ## PENDING (R327, R331) -/

theorem runPend_fits {d : Dest} {bs : Bytes} {s : State} (h : bs.length ≤ Config.pendingCap - s.bw.pending.length) :
    runPend d bs s = .ok { s with bw := { s.bw with pending := s.bw.pending ++ bs } } := if_pos h

/-- PENDING takes what it has room for, and is flushed before the rest. -/
theorem runPend_full {d : Dest} {bs : Bytes} {s : State} {k : Nat} (hk : k = Config.pendingCap - s.bw.pending.length)
    (h : k < bs.length) : runPend d bs s = .ok { s with
      bw := { s.bw with pending := s.bw.pending ++ bs.take k }, tasks := .flush d :: .pend d (bs.drop k) :: s.tasks } := by
  subst hk
  rw [runPend, if_neg (Nat.not_le.2 h)]
  split
  case isTrue => rfl
  case isFalse hfull =>
    rw [Nat.eq_zero_of_not_pos hfull, List.take_zero, List.drop_zero, List.append_nil]

/-- Bytes that PENDING has room for are all the command has left to do. -/
theorem drive_pend_fits (k : Nat) {d : Dest} {bs : Bytes} {s : State}
    (h : bs.length ≤ Config.pendingCap - s.bw.pending.length) : drive (k + 1) { s with tasks := [.pend d bs] } =
      complete { s with bw := { s.bw with pending := s.bw.pending ++ bs } } := by
  have hpend : runTask (.pend d bs) { s with tasks := [.pend d bs] } =
      .ok { s with bw := { s.bw with pending := s.bw.pending ++ bs }, tasks := [] } :=
    runPend_fits (s := { s with tasks := [] }) h
  rw [drive_ok rfl hpend, drive_nil rfl]
  rfl

theorem run_pend_fits {d : Dest} {bs : Bytes} {s : State} (h : bs.length ≤ Config.pendingCap - s.bw.pending.length) :
    run { s with tasks := [.pend d bs] } = complete { s with bw := { s.bw with pending := s.bw.pending ++ bs } } := by
  rw [run_eq]
  exact drive_pend_fits _ h

/-- A full PENDING goes to OUT before the bytes that are left follow. -/
theorem drive_flush_pend (k : Nat) {bs : Bytes} {s : State} (hroom : outRoom s s.bw.pending.length = s.bw.pending.length)
    (hbs : bs.length ≤ Config.pendingCap) : drive (k + 2) { s with tasks := [.flush .host, .pend .host bs] } =
      complete { s with outq := s.outq ++ s.bw.pending, bw := { s.bw with pending := bs } } := by
  have hflush : runTask (.flush .host) { s with tasks := [.flush .host, .pend .host bs] } = .ok { s with
      outq := s.outq ++ s.bw.pending, bw := { s.bw with pending := [] }, tasks := [.pend .host bs] } :=
    runFlush_host_room (s := { s with tasks := [.pend .host bs] }) hroom
  rw [drive_ok rfl hflush, drive_pend_fits k (s := { s with
    outq := s.outq ++ s.bw.pending, bw := { s.bw with pending := [] } }) hbs]
  rfl

/-- PendPush with room in OUT for a full PENDING: the bytes follow those held in order, and leave for OUT only where PENDING is
full. -/
theorem run_pend_host {bs : Bytes} {s : State} (hp : s.bw.pending.length ≤ Config.pendingCap)
    (hroom : outRoom s Config.pendingCap = Config.pendingCap) (hbs : bs.length ≤ Config.pendingCap) :
    ∃ o p : Bytes, run { s with tasks := [.pend .host bs] } =
        complete { s with outq := s.outq ++ o, bw := { s.bw with pending := p } } ∧
      o ++ p = s.bw.pending ++ bs ∧ (s.bw.pending.length + bs.length ≤ Config.pendingCap → o = []) := by
  by_cases hfit : s.bw.pending.length + bs.length ≤ Config.pendingCap
  case pos =>
    refine ⟨[], s.bw.pending ++ bs, ?_, rfl, fun _ => rfl⟩
    rw [run_pend_fits (Nat.le_sub_of_add_le' hfit), List.append_nil]
  case neg =>
    obtain ⟨k, hk⟩ : ∃ k, k = Config.pendingCap - s.bw.pending.length := ⟨_, rfl⟩
    have hlen : (s.bw.pending ++ bs.take k).length = Config.pendingCap := by
      rw [List.length_append, List.length_take]; omega
    refine ⟨s.bw.pending ++ bs.take k, bs.drop k, ?_, by rw [List.append_assoc, List.take_append_drop],
      fun h => absurd h hfit⟩
    have hpend : runTask (.pend .host bs) { s with tasks := [.pend .host bs] } = .ok { s with
        bw := { s.bw with pending := s.bw.pending ++ bs.take k }, tasks := [.flush .host, .pend .host (bs.drop k)] } :=
      runPend_full (s := { s with tasks := [] }) hk (by omega)
    rw [run_eq, drive_ok rfl hpend]
    exact drive_flush_pend _ (s := { s with bw := { s.bw with pending := s.bw.pending ++ bs.take k } })
      (by rw [hlen]; exact hroom) (by rw [List.length_drop]; omega)

/-! ## The accumulator (R320) -/

theorem leValue_append (a b : Bytes) : leValue (a ++ b) = leValue a + leValue b * 2 ^ (8 * a.length) := by
  induction a with
  | nil => simp [leValue]
  | cons x xs ih =>
    simp only [List.cons_append, leValue, ih, List.length_cons, Nat.mul_add, Nat.pow_add]
    ring

/-- The bytes given and the bits held, as one number with the first bit in bit 0. -/
def Pack.value (p : Pack) : Nat := leValue p.out.reverse + p.acc.toNat * 2 ^ (8 * p.out.length)

/-- Packing whole bytes moves bits from the accumulator to the bytes. -/
theorem packBytes_value (k : Nat) (p : Pack) : (packBytes k p).value = p.value := by
  induction k generalizing p with
  | zero => rfl
  | succ k ih =>
    simp only [packBytes]
    split
    · rw [ih]
      have hlow : (p.acc.setWidth 8 : Byte).toNat = p.acc.toNat % 256 := by simp
      have hhigh : (p.acc >>> 8).toNat = p.acc.toNat / 256 := by
        rw [BitVec.toNat_ushiftRight, Nat.shiftRight_eq_div_pow]
      simp only [Pack.value, List.reverse_cons, leValue_append, leValue, hlow, hhigh, List.length_reverse,
        List.length_cons, Nat.mul_add, Nat.pow_add]
      have hsplit := Nat.mod_add_div p.acc.toNat 256
      calc _ = leValue p.out.reverse + (p.acc.toNat % 256 + 256 * (p.acc.toNat / 256)) * 2 ^ (8 * p.out.length) := by ring
        _ = _ := by rw [hsplit]
    · rfl

/-- Packing keeps the number of bits, and what is held fits. -/
theorem packBytes_bits (k : Nat) (p : Pack) : (packBytes k p).n + 8 * (packBytes k p).out.length = p.n + 8 * p.out.length := by
  induction k generalizing p with
  | zero => rfl
  | succ k ih =>
    simp only [packBytes]
    split
    · rw [ih]
      simp only [List.length_cons]
      omega
    · rfl

theorem packBytes_fits (k : Nat) {p : Pack} (h : p.acc.toNat < 2 ^ p.n) :
    (packBytes k p).acc.toNat < 2 ^ (packBytes k p).n := by
  induction k generalizing p with
  | zero => exact h
  | succ k ih =>
    simp only [packBytes]
    split
    · refine ih ?_
      simp only [BitVec.toNat_ushiftRight, Nat.shiftRight_eq_div_pow]
      rw [Nat.div_lt_iff_lt_mul (by decide), ← Nat.pow_add]
      rwa [Nat.sub_add_cancel (by assumption)]
    · exact h

/-- Bits written above those held: as a number, an addition. -/
theorem or_shift_toNat {acc : Word} {v m n : Nat} (ha : acc.toNat < 2 ^ m) (hv : v < 2 ^ n) (hmn : m + n ≤ 32) :
    (acc ||| (BitVec.ofNat 32 v <<< m)).toNat = acc.toNat + v * 2 ^ m := by
  have hv32 : v < 2 ^ 32 := Nat.lt_of_lt_of_le hv (Nat.pow_le_pow_right (by decide) (by omega))
  have hlt : v * 2 ^ m < 2 ^ 32 := by
    calc v * 2 ^ m < 2 ^ n * 2 ^ m := Nat.mul_lt_mul_of_pos_right hv (Nat.two_pow_pos m)
      _ = 2 ^ (m + n) := by rw [← Nat.pow_add, Nat.add_comm]
      _ ≤ 2 ^ 32 := Nat.pow_le_pow_right (by decide) hmn
  have hs : (BitVec.ofNat 32 v <<< m : Word).toNat = v * 2 ^ m := by
    rw [BitVec.toNat_shiftLeft, BitVec.toNat_ofNat, Nat.shiftLeft_eq, Nat.mod_eq_of_lt hv32, Nat.mod_eq_of_lt hlt]
  rw [BitVec.toNat_or, hs, Nat.mul_comm, Nat.or_comm, ← Nat.two_pow_add_eq_or_of_lt ha, Nat.add_comm]

theorem add_shift_fits {a v m n : Nat} (ha : a < 2 ^ m) (hv : v < 2 ^ n) : a + v * 2 ^ m < 2 ^ (m + n) := by
  have h : (v + 1) * 2 ^ m ≤ 2 ^ n * 2 ^ m := Nat.mul_le_mul_right _ hv
  rw [Nat.pow_add, Nat.mul_comm (2 ^ m)]
  linarith

/-- What WriteBits leaves: as many whole bytes as there are, and the rest held. -/
theorem packBits_spec {acc : Word} {v m n : Nat} (ha : acc.toNat < 2 ^ m) (hv : v < 2 ^ n) (hmn : m + n ≤ 32) :
    ∃ p : Pack, packBits v n ⟨acc, m, []⟩ = p ∧ p.n = (m + n) % 8 ∧ p.out.length = (m + n) / 8 ∧
      leValue p.out.reverse + p.acc.toNat * 2 ^ (8 * p.out.length) = acc.toNat + v * 2 ^ m ∧ p.acc.toNat < 2 ^ p.n := by
  have hor := or_shift_toNat ha hv hmn
  have hn := packBits_n v n ⟨acc, m, []⟩
  have hbits := packBytes_bits ((m + n) / 8) ⟨acc ||| (BitVec.ofNat 32 v <<< m), m + n, []⟩
  have hvalue := packBytes_value ((m + n) / 8) ⟨acc ||| (BitVec.ofNat 32 v <<< m), m + n, []⟩
  refine ⟨_, rfl, hn, ?_, ?_, packBytes_fits _ (by rw [hor]; exact add_shift_fits ha hv)⟩
  · simp only [packBits, List.length_nil] at hn hbits ⊢
    omega
  · refine hvalue.trans ?_
    simp [Pack.value, leValue, hor]

/-- A write of the n low bits of v completes with them written (R320, R331). -/
theorem bitsWritten_run {s : State} {v n : Nat} (hw : WriterReady s) (hv : v < 2 ^ n) (hn : n ≤ 16) :
    BitsWritten v n s (run (writeOps .host [.bits v n] (begun s))) := by
  obtain ⟨h7, hacc, hp, hroom⟩ := hw
  obtain ⟨p, hpack, hpn, hlen, hvalue, hfit⟩ := packBits_spec hacc hv (by omega)
  have hrun : writeOps .host [.bits v n] (begun s) = { s with
      bw := { s.bw with acc := p.acc, n := p.n }, tasks := [.pend .host p.out.reverse] } := by
    subst hpack
    rfl
  have hbs : p.out.reverse.length ≤ Config.pendingCap := by
    rw [List.length_reverse, hlen]
    show _ ≤ 65536
    omega
  obtain ⟨o, q, hq, hoq, ho⟩ := run_pend_host (bs := p.out.reverse) (s := { s with bw := { s.bw with acc := p.acc, n := p.n } })
    hp hroom hbs
  rw [hrun]
  refine ⟨p.out.reverse, o, q, p.acc, ?_, hoq, ?_, ?_, ?_, ho⟩
  · rw [hq, hpn]
  · rw [List.length_reverse, hlen]
  · rw [List.length_reverse, hvalue]
  · rw [← hpn]
    exact hfit

/-! ## HENC_ENCODE (43_huffman_encoder.md R255) -/

/-- HENC_ENCODE's pseudocode on tree k. -/
def hencEncodeBody (k : Sel) (sym : BitVec 16) (s : State) : Res :=
  guardErr (decide (k.nsym ≤ sym.toNat)) .badArg 0x34 s <|
  guardErr (!(getTree s k).cBuilt) .notBuilt 0x34 s <|
  guardErr ((getTree s k).len.getD sym.toNat 0 == 0) .badArg 0x34 s <|
  .ok (writeOps .host [.bits ((getTree s k).code.getD sym.toNat 0) ((getTree s k).len.getD sym.toNat 0)] s)

theorem exec_hencEncode {s : State} {t : BitVec 8} {k : Sel} (ht : selOf t = some k) (ha : s.defl.phase.active = false)
    (sym : BitVec 16) : exec (.hencEncode t sym) s = launch (hencEncodeBody k sym) s := by
  show execHencEncode t sym s = _
  simp only [execHencEncode, launch, hencPrologue_some ht (s := begun s) ha]
  rfl

/-- Settles O18: the guards in R255's order, then one write of the code. -/
theorem encodeWritesTheSymbolsCode : Obligations.EncodeWritesTheSymbolsCode := by
  refine ⟨fun s t k sym ht ha => ⟨fun hsym hb hl hl16 hcode hw => ?_, fun hsym => ?_, fun hsym hb => ?_,
    fun hsym hb hl => ?_⟩, fun s t sym ht ha => ?_⟩
  · refine ⟨_, ?_, bitsWritten_run hw hcode hl16⟩
    rw [exec_hencEncode ht ha]
    refine launch_ok ?_
    simp only [hencEncodeBody, getTree_begun, decide_eq_false (Nat.not_le.2 hsym), hb, Bool.not_true,
      beq_eq_false_iff_ne.2 hl.ne', guardErr_false]
  · rw [exec_hencEncode ht ha]
    refine launch_refuse (opc := 0x34) ?_
    rw [hencEncodeBody, decide_eq_true hsym, guardErr_true]
  · rw [exec_hencEncode ht ha]
    refine launch_refuse (opc := 0x34) ?_
    simp only [hencEncodeBody, getTree_begun, decide_eq_false (Nat.not_le.2 hsym), hb, Bool.not_false, guardErr_false,
      guardErr_true]
  · rw [exec_hencEncode ht ha]
    refine launch_refuse (opc := 0x34) ?_
    simp only [hencEncodeBody, getTree_begun, decide_eq_false (Nat.not_le.2 hsym), hb, hl, Bool.not_true, beq_self_eq_true,
      guardErr_false, guardErr_true]
  · show execHencEncode t sym s = _
    exact launch_refuse (hencPrologue_none (s := begun s) (selOf_none ht) ha)

/-! ## Raw bytes and alignment (45_bitstream.md R322-R328, R332, R333) -/

theorem le16_word (v : BitVec 16) : le16 v.toNat = [v.setWidth 8, (v >>> 8).setWidth 8] := by
  simp only [le16, List.cons.injEq, and_true]
  constructor <;> apply BitVec.eq_of_toNat_eq <;> simp [Nat.shiftRight_eq_div_pow]

theorem be16_word (v : BitVec 16) : be16 v.toNat = [(v >>> 8).setWidth 8, v.setWidth 8] :=
  congrArg List.reverse (le16_word v)

theorem le32_word (v : Word) :
    le32 v.toNat = [v.setWidth 8, (v >>> 8).setWidth 8, (v >>> 16).setWidth 8, (v >>> 24).setWidth 8] := by
  simp only [le32, List.cons.injEq, and_true]
  refine ⟨?_, ?_, ?_, ?_⟩ <;> apply BitVec.eq_of_toNat_eq <;> simp [Nat.shiftRight_eq_div_pow]

theorem be32_word (v : Word) :
    be32 v.toNat = [(v >>> 24).setWidth 8, (v >>> 16).setWidth 8, (v >>> 8).setWidth 8, v.setWidth 8] :=
  congrArg List.reverse (le32_word v)

theorem rawW_aligned {opc : Nat} {bs : Bytes} {s : State} (h : s.bw.n = 0) :
    rawW opc bs s = .ok (writeOps .host [.raw bs] s) := by
  rw [rawW, h]
  rfl

theorem rawW_unaligned {opc : Nat} {bs : Bytes} {s : State} (h : s.bw.n ≠ 0) :
    rawW opc bs s = refuse .rawWriteUnaligned opc s := by
  rw [rawW, bne_iff_ne.2 h, guardErr_true]

/-- Raw bytes that PENDING has room for are appended to it. -/
theorem run_raw {bs : Bytes} {s : State} (h : s.bw.pending.length + bs.length ≤ Config.pendingCap) :
    run (writeOps .host [.raw bs] (begun s)) = pended bs s := by
  have hraw : writeOps .host [.raw bs] (begun s) = { s with tasks := [.pend .host bs] } := by
    simp only [writeOps, packOps, List.foldl_cons, List.foldl_nil, WOp.run, List.append_nil, List.reverse_reverse]
    rfl
  rw [hraw, run_pend_fits (Nat.le_sub_of_add_le' h)]
  rfl

/-- A raw write appends its bytes where no bit is held. -/
theorem launch_raw_aligned {opc : Nat} {bs : State → Bytes} {s : State} {cs : Bytes} (ha : s.defl.phase.active = false)
    (hn : s.bw.n = 0) (hbs : bs (begun s) = cs) (h : s.bw.pending.length + cs.length ≤ Config.pendingCap) :
    launch (fun s => deflFree opc s <| rawW opc (bs s) s) s = .next (pended cs s) := by
  simp only [launch, deflFree_ok (s := begun s) ha, rawW_aligned (s := begun s) hn, hbs, run_raw h]

theorem launch_raw_unaligned {opc : Nat} {bs : State → Bytes} {s : State} (ha : s.defl.phase.active = false)
    (hn : s.bw.n ≠ 0) :
    launch (fun s => deflFree opc s <| rawW opc (bs s) s) s = .next (raiseErr .rawWriteUnaligned (toWord opc) s) := by
  refine launch_refuse ?_
  simp only [deflFree_ok (s := begun s) ha, rawW_unaligned (s := begun s) hn]

/-- BW_WRITE_BYTES's pseudocode after its prologue. -/
def bwWriteBytesBody (s : State) : Res :=
  guardErr (s.bw.n != 0) .rawWriteUnaligned 0x52 s <|
  guardErr (overInCap s (argNat s 0)) .badArg 0x52 s <|
  takeCounted 0x52 (argNat s 0) s fun b s => rawW 0x52 b s

theorem exec_bwWriteBytes {s : State} (ha : s.defl.phase.active = false) :
    exec .bwWriteBytes s = launch bwWriteBytesBody s := by
  show execBwWriteBytes s = _
  simp only [execBwWriteBytes, launch, deflFree_ok (s := begun s) ha]
  rfl

/-- With no bit held only the bytes are left to be checked. -/
theorem bwWriteBytes_checked {s : State} (h : s.bw.n = 0) : bwWriteBytesBody (begun s) =
    guardErr (overInCap s s.lat.r0.toNat) .badArg 0x52 (begun s)
      (takeCounted 0x52 s.lat.r0.toNat (begun s) fun b s => rawW 0x52 b s) := by
  have hb : ((begun s).bw.n != 0) = false := by simp [h]
  rw [bwWriteBytesBody, hb]
  rfl

theorem exec_bwAlign {s : State} (ha : s.defl.phase.active = false) :
    exec .bwAlign s = .next (run (writeOps .host [.align] (begun s))) :=
  launch_ok (f := fun s => deflFree 0x51 s (.ok (writeOps .host [.align] s))) (deflFree_ok (s := begun s) ha _)

/-- Alignment gives one byte where bits are held (R322). -/
theorem writeOps_align {s : State} (hn : 0 < s.bw.n) : writeOps .host [.align] (begun s) =
    { s with bw := ⟨0, 0, s.bw.pending⟩, tasks := [.pend .host [s.bw.acc.setWidth 8]] } := by
  simp only [writeOps, packOps, List.foldl_cons, List.foldl_nil, WOp.run, packAlign, begun_bw, hn, if_true]
  rfl

theorem writeOps_align_none {s : State} (hn : s.bw.n = 0) :
    writeOps .host [.align] (begun s) = { s with tasks := [.pend .host []] } := by
  simp only [writeOps, packOps, List.foldl_cons, List.foldl_nil, WOp.run, packAlign, begun_bw, hn, Nat.lt_irrefl, if_false]
  rw [← hn]
  rfl

/-- Settles O26: what each write packs goes to PENDING, which has room. -/
theorem writerAlignsAndAppendsRawBytes : Obligations.WriterAlignsAndAppendsRawBytes := by
  refine fun s ha => ⟨fun hn => ?_, fun hn hp => ?_, fun hn hc hk hp => ?_, fun v hn hp => ⟨?_, ?_⟩, fun hn hp => ⟨?_, ?_⟩,
    fun hn => countedRefusals_launch (exec_bwWriteBytes ha) (bwWriteBytes_checked hn), fun hn => ?_,
    fun v hn => ⟨?_, ?_⟩, fun hn => ⟨?_, ?_⟩⟩
  · rw [exec_bwAlign ha, writeOps_align_none hn, run_pend_fits (Nat.zero_le _), List.append_nil]
  · rw [exec_bwAlign ha, writeOps_align hn]
    exact congrArg _ (run_pend_fits (s := { s with bw := ⟨0, 0, s.bw.pending⟩ }) (Nat.le_sub_of_add_le' hp))
  · have hlen : (s.inq.take s.lat.r0.toNat).length = s.lat.r0.toNat := List.length_take_of_le hk
    have htaken : bwWriteBytesBody (begun s) = .ok (writeOps .host [.raw (s.inq.take s.lat.r0.toNat)]
        (begun { s with inq := s.inq.drop s.lat.r0.toNat })) :=
      (counted_enough (bwWriteBytes_checked hn) hc hk).trans (rawW_aligned hn)
    rw [exec_bwWriteBytes ha, launch_ok htaken]
    exact congrArg _ (run_raw (s := { s with inq := s.inq.drop s.lat.r0.toNat }) (by rw [hlen]; exact hp))
  · exact launch_raw_aligned (opc := 0x53) (bs := fun _ => le16 v.toNat) ha hn (le16_word v) hp
  · exact launch_raw_aligned (opc := 0x54) (bs := fun _ => be16 v.toNat) ha hn (be16_word v) hp
  · exact launch_raw_aligned (opc := 0x55) (bs := fun s => le32 (argNat s 0)) ha hn (le32_word s.lat.r0) hp
  · exact launch_raw_aligned (opc := 0x56) (bs := fun s => be32 (argNat s 0)) ha hn (be32_word s.lat.r0) hp
  · rw [exec_bwWriteBytes ha]
    refine launch_refuse (opc := 0x52) ?_
    have hb : ((begun s).bw.n != 0) = true := bne_iff_ne.2 hn
    rw [bwWriteBytesBody, hb, guardErr_true]
  · exact launch_raw_unaligned (opc := 0x53) (bs := fun _ => le16 v.toNat) ha hn
  · exact launch_raw_unaligned (opc := 0x54) (bs := fun _ => be16 v.toNat) ha hn
  · exact launch_raw_unaligned (opc := 0x55) (bs := fun s => le32 (argNat s 0)) ha hn
  · exact launch_raw_unaligned (opc := 0x56) (bs := fun s => be32 (argNat s 0)) ha hn

/-! ## The compressor's reset and its staged input (46_lz77_compressor.md R376, R377, R413) -/

theorem execDeflReset_ok {s : State} (hc : ctrlBad s = false) :
    exec .deflReset s = .next (complete (deflReset (ctrlParams s) (begun s))) := by
  show execDeflReset s = _
  refine finish_ok ?_
  have hb : ctrlBad (begun s) = false := hc
  rw [hb, guardErr_false]
  rfl

theorem deflReady_filling {opc : Nat} {s : State} {r : Res} (h : s.defl.phase = .filling) : deflReady opc s r = r := by
  simp [deflReady, h]

theorem deflReady_finished {opc : Nat} {s : State} {r : Res} (h : s.defl.phase = .finished) :
    deflReady opc s r = refuse .streamFinished opc s := by
  simp [deflReady, h]

theorem deflReady_other {opc : Nat} {s : State} {r : Res} (h1 : s.defl.phase ≠ .finished) (h2 : s.defl.phase ≠ .filling) :
    deflReady opc s r = refuse .notReady opc s := by
  simp [deflReady, h1, h2]

/-- DEFL_INPUT's pseudocode after its state checks. -/
def deflInputBody (s : State) : Res :=
  guardErr (overInCap s (argNat s 0)) .badArg 0x81 s <|
  takeCounted 0x81 (argNat s 0) s fun b s => .ok { stageBytes b s with tasks := [.deflRun, .deflInputRes] }

theorem exec_deflInput (s : State) : exec .deflInput s = launch (fun s => deflReady 0x81 s (deflInputBody s)) s := rfl

/-- Fill takes all of STAGE where the window has room for it (R377). -/
theorem fillWindow_all {z : Lz} {stage : Bytes} (hl : z.lookahead < Config.minLookahead)
    (hroom : stage.length ≤ Config.winCap - z.strStart - z.lookahead) : fillWindow z stage = (z.load stage, []) := by
  simp only [fillWindow, hl, if_true, List.take_of_length_le hroom, List.drop_of_length_le hroom]

/-- With fewer than MIN_LOOKAHEAD bytes after Fill and more to come, the compressor waits for input (R388). -/
theorem runDeflGo_filling {s : State} (hph : s.defl.phase = .filling) (hf : s.defl.fin = false)
    (hroom : s.lz.strStart < 65267) (hl : s.lz.lookahead + s.defl.stage.length < 269) : runDeflGo s = .ok { s with
      lz := s.lz.load s.defl.stage, defl := { s.defl with stage := [] } } := by
  have hla : s.lz.lookahead < Config.minLookahead := Nat.lt_of_le_of_lt (Nat.le_add_right _ _) hl
  have hst : s.defl.stage.length ≤ Config.winCap - s.lz.strStart - s.lz.lookahead := by
    show _ ≤ 65536 - s.lz.strStart - s.lz.lookahead
    omega
  have hfew : (s.lz.load s.defl.stage).lookahead < Config.minLookahead := hl
  simp only [runDeflGo, fillWindow_all hla hst, hfew, hf, and_self, if_true, ← hph]

/-- DEFL_INPUT whose bytes only fill the window (R388, R413). -/
theorem run_deflInput_filling {s : State} (hph : s.defl.phase = .filling) (hf : s.defl.fin = false)
    (hroom : s.lz.strStart < 65267) (hl : s.lz.lookahead + s.defl.stage.length < 269) :
    run { s with tasks := [.deflRun, .deflInputRes] } = complete (setRes [(0, s.defl.outCount)] { s with
      lz := s.lz.load s.defl.stage, defl := { s.defl with stage := [] } }) := by
  have hslide : slideDue s.lz = false := decide_eq_false (Nat.not_le.2 hroom)
  have hrun : runTask .deflRun { s with tasks := [.deflRun, .deflInputRes] } =
      .ok { s with tasks := [.deflGo, .deflInputRes] } := by
    simp only [runTask, runDefl, hslide]
    rfl
  have hgo : runTask .deflGo { s with tasks := [.deflGo, .deflInputRes] } = .ok { s with
      lz := s.lz.load s.defl.stage
      defl := { s.defl with stage := [] }
      tasks := [.deflInputRes] } := runDeflGo_filling (s := { s with tasks := [.deflInputRes] }) hph hf hroom hl
  rw [run_eq, drive_ok rfl hrun, drive_ok rfl hgo, drive_ok (t := .deflInputRes) rfl rfl, drive_nil rfl]
  rfl

/-- Settles O35: DEFL_RESET on the two answers of LatchParams, DEFL_INPUT by the phase it finds. -/
theorem compressorResetAndSmallInput : Obligations.CompressorResetAndSmallInput := by
  refine ⟨fun s hc => ?_, fun s hc => ?_, fun s hph hf hc hk hroom hl => ?_, fun s hph => ?_, fun s hph => ?_,
    fun s h1 h2 => ?_⟩
  · rw [execDeflReset_ok hc]
    rfl
  · show execDeflReset s = _
    refine finish_refuse ?_
    have hb : ctrlBad (begun s) = true := hc
    rw [hb, guardErr_true]
  · have hlen : (s.inq.take s.lat.r0.toNat).length = s.lat.r0.toNat := List.length_take_of_le hk
    have hload : s.lz.lookahead + (s.defl.stage ++ s.inq.take s.lat.r0.toNat).length =
        s.lz.lookahead + s.defl.stage.length + s.lat.r0.toNat := by
      rw [List.length_append, hlen, Nat.add_assoc]
    have htaken : deflReady 0x81 (begun s) (deflInputBody (begun s)) = .ok { stageBytes (s.inq.take s.lat.r0.toNat)
        { s with inq := s.inq.drop s.lat.r0.toNat } with tasks := [.deflRun, .deflInputRes] } :=
      (deflReady_filling (s := begun s) hph).trans (counted_enough (s := begun s) rfl hc hk)
    have hrun := run_deflInput_filling (s := stageBytes (s.inq.take s.lat.r0.toNat)
      { s with inq := s.inq.drop s.lat.r0.toNat }) hph hf hroom (hload.trans_lt hl)
    rw [exec_deflInput, launch_ok htaken, ← hload]
    exact congrArg Host.Outcome.next hrun
  · exact countedRefusals_launch (exec_deflInput s) (deflReady_filling (s := begun s) hph)
  · rw [exec_deflInput]
    exact launch_refuse (deflReady_finished (s := begun s) hph)
  · rw [exec_deflInput]
    exact launch_refuse (deflReady_other (s := begun s) h1 h2)

end Sys2Proof.Machine
end

section
/-! PROOFS. A block's type, its code-length sequence and its matches (46_lz77_compressor.md R401, R402, R408, R409): the run-length code
loses nothing, and every length and distance is a base and extra bits (30_encoding.md R161, R162). -/

namespace Sys2Proof.Machine

/-! ## The run-length code (R408) -/

/-- A code-length symbol of R163 whose value fits its extra bits. -/
def ClSym.Ok (q : ClSym) : Prop := q.k ≤ 18 ∧ q.w = clExtraBits q.k ∧ q.v < 2 ^ q.w

theorem ClSym.Ok.of_bounds {k v w : Nat} (hk : k ≤ 18) (hw : w = clExtraBits k) (hv : v < 2 ^ w) : ClSym.Ok ⟨k, v, w⟩ :=
  ⟨hk, hw, hv⟩

theorem clExpand_append (acc : List Nat) (qs rs : List ClSym) :
    clExpand acc (qs ++ rs) = clExpand (clExpand acc qs) rs := by
  induction qs generalizing acc with
  | nil => rfl
  | cons q qs ih => simp only [List.cons_append, clExpand, ih]

theorem clExpand_literals {cur : Nat} (h : cur ≤ 15) (acc : List Nat) (n : Nat) :
    clExpand acc (List.replicate n ⟨cur, 0, 0⟩) = acc ++ List.replicate n cur := by
  induction n generalizing acc with
  | zero => simp [clExpand]
  | succ n ih => simp [List.replicate_succ, clExpand, h, ih]

theorem clExpand_prev {cur n : Nat} {acc : List Nat} (h : acc.getLast? = some cur) (hn : 3 ≤ n) (w : Nat) :
    clExpand acc [⟨16, n - 3, w⟩] = acc ++ List.replicate n cur := by
  simp [clExpand, h, Nat.add_sub_cancel' hn]

theorem clExpand_zeros {n : Nat} (acc : List Nat) :
    (3 ≤ n → clExpand acc [⟨17, n - 3, 3⟩] = acc ++ List.replicate n 0) ∧
      (11 ≤ n → clExpand acc [⟨18, n - 11, 7⟩] = acc ++ List.replicate n 0) := by
  constructor <;> intro hn <;> simp [clExpand, Nat.add_sub_cancel' hn]

theorem literal_ok {cur : Nat} (h : cur ≤ 15) : ClSym.Ok ⟨cur, 0, 0⟩ := by
  refine ⟨by show cur ≤ 18; omega, ?_, Nat.one_pos⟩
  show 0 = clExtraBits cur
  unfold clExtraBits
  split
  case h_4 => rfl
  all_goals omega

/-- MAXC and MINC of a run of `cur` after `prev` (R408). -/
def RunLimits (cur : Nat) (prev : Option Nat) (maxc minc : Nat) : Prop :=
  (cur = 0 ∧ maxc = 138 ∧ minc = 3) ∨ (cur ≠ 0 ∧ prev = some cur ∧ maxc = 6 ∧ minc = 3) ∨
    (cur ≠ 0 ∧ prev ≠ some cur ∧ maxc = 7 ∧ minc = 4)

theorem runLimits_first (cur : Nat) (rest : List Nat) :
    RunLimits cur none (if (cur :: rest).head? = some 0 then (138, 3) else (7, 4)).1
      (if (cur :: rest).head? = some 0 then (138, 3) else (7, 4)).2 := by
  by_cases h : cur = 0 <;> simp [RunLimits, h]

theorem runLimits_next (cur next : Nat) (rest : List Nat) :
    RunLimits next (some cur)
      (if (next :: rest).head? = some 0 then (138, 3) else if (next :: rest).head? = some cur then (6, 3) else (7, 4)).1
      (if (next :: rest).head? = some 0 then (138, 3) else if (next :: rest).head? = some cur then (6, 3) else (7, 4)).2 := by
  by_cases h0 : next = 0
  · simp [RunLimits, h0]
  · by_cases hc : next = cur
    · simp [RunLimits, hc ▸ h0, hc]
    · simp [RunLimits, h0, hc, Ne.symm hc]

theorem RunLimits.pos {cur maxc minc : Nat} {prev : Option Nat} (h : RunLimits cur prev maxc minc) : 0 < maxc := by
  rcases h with ⟨-, rfl, -⟩ | ⟨-, -, rfl, -⟩ | ⟨-, -, rfl, -⟩ <;> decide

/-- What ends a run stands for the whole run. -/
theorem rleEmit_spec {cur n maxc minc : Nat} {prev : Option Nat} {acc : List Nat} (hcur : cur ≤ 15)
    (hlast : acc.getLast? = prev) (hlim : RunLimits cur prev maxc minc) (hn : n ≤ maxc) :
    clExpand acc (rleEmit cur prev n minc) = acc ++ List.replicate n cur ∧ ∀ q ∈ rleEmit cur prev n minc, q.Ok := by
  unfold rleEmit
  split
  case isTrue => exact ⟨clExpand_literals hcur acc n, fun q hq => List.eq_of_mem_replicate hq ▸ literal_ok hcur⟩
  case isFalse hmin =>
    rcases hlim with ⟨rfl, rfl, rfl⟩ | ⟨h0, rfl, rfl, rfl⟩ | ⟨h0, hp, rfl, rfl⟩
    · rw [if_neg (by simp)]
      split
      · exact ⟨(clExpand_zeros acc).1 (by omega), List.forall_mem_singleton.2 (.of_bounds (by decide) rfl (by omega))⟩
      · exact ⟨(clExpand_zeros acc).2 (by omega), List.forall_mem_singleton.2 (.of_bounds (by decide) rfl (by omega))⟩
    · rw [if_pos h0, if_pos rfl]
      exact ⟨clExpand_prev hlast (by omega) 2, List.forall_mem_singleton.2 (.of_bounds (by decide) rfl (by omega))⟩
    · rw [if_pos h0, if_neg hp]
      have hsplit := clExpand_append acc (List.replicate 1 ⟨cur, 0, 0⟩) [⟨16, n - 1 - 3, 2⟩]
      rw [clExpand_literals hcur, clExpand_prev (cur := cur) (by simp) (by omega), List.append_assoc,
        List.replicate_append_replicate, Nat.add_sub_cancel' (by omega)] at hsplit
      exact ⟨hsplit, List.forall_mem_cons.2 ⟨literal_ok hcur, List.forall_mem_singleton.2 (.of_bounds (by decide) rfl (by omega))⟩⟩

/-- With `n` lengths equal to the first one pending, the sequence stands for them and the list. -/
theorem rleLoop_spec {cur : Nat} {rest : List Nat} {prev : Option Nat} {n maxc minc : Nat} {acc : List Nat}
    (hle : ∀ l ∈ cur :: rest, l ≤ 15) (hlast : acc.getLast? = prev) (hlim : RunLimits cur prev maxc minc) (hn : n < maxc) :
    clExpand acc (rleLoop (cur :: rest) prev n maxc minc) = acc ++ List.replicate n cur ++ cur :: rest ∧
      ∀ q ∈ rleLoop (cur :: rest) prev n maxc minc, q.Ok := by
  induction rest generalizing cur prev n maxc minc acc with
  | nil =>
    obtain ⟨hexp, hok⟩ := rleEmit_spec (n := n + 1) (hle cur (by simp)) hlast hlim hn
    rw [rleLoop, if_neg (fun h => nomatch h.2)]
    simp only [rleLoop, List.append_nil]
    refine ⟨?_, hok⟩
    rw [hexp, List.replicate_succ', List.append_assoc]
  | cons next rest ih =>
    have htail : ∀ l ∈ next :: rest, l ≤ 15 := fun l hl => hle l (List.mem_cons_of_mem _ hl)
    rw [rleLoop]
    split
    case isTrue hrun =>
      obtain ⟨hlt, hnext⟩ := hrun
      obtain rfl : next = cur := Option.some.inj hnext
      obtain ⟨hexp, hok⟩ := ih htail hlast hlim hlt
      refine ⟨?_, hok⟩
      rw [hexp, List.replicate_succ']
      simp only [List.append_assoc, List.singleton_append]
    case isFalse =>
      obtain ⟨hexp, hok⟩ := rleEmit_spec (n := n + 1) (hle cur (by simp)) hlast hlim hn
      obtain ⟨hexp2, hok2⟩ := ih (n := 0) (acc := acc ++ List.replicate (n + 1) cur) htail (by simp [List.replicate_succ'])
        (runLimits_next cur next rest)
        (runLimits_next cur next rest).pos
      refine ⟨?_, List.forall_mem_append.2 ⟨hok, hok2⟩⟩
      rw [clExpand_append, hexp, hexp2, List.replicate_succ', List.replicate_zero, List.append_nil]
      simp only [List.append_assoc, List.singleton_append]

theorem rle_spec {lens : List Nat} (h : ∀ l ∈ lens, l ≤ 15) : clExpand [] (rle lens) = lens ∧ ∀ q ∈ rle lens, q.Ok := by
  cases lens with
  | nil => exact ⟨rfl, fun q hq => nomatch hq⟩
  | cons cur rest => exact rleLoop_spec h rfl (runLimits_first cur rest) (runLimits_first cur rest).pos

/-! ## Bases and extra bits (30_encoding.md R161, R162, R165, R166) -/

/-- In a rising list the elements up to v come first. -/
theorem getD_le_iff_lt_filter {bases : List Nat} (hs : bases.Pairwise (· < ·)) (v : Nat) {j : Nat} (hj : j < bases.length) :
    bases.getD j 0 ≤ v ↔ j < (bases.filter (fun b => decide (b ≤ v))).length := by
  induction bases generalizing j with
  | nil => simp at hj
  | cons b bs ih =>
    obtain ⟨hlt, hs⟩ := List.pairwise_cons.1 hs
    by_cases hb : b ≤ v
    · rw [List.filter_cons_of_pos (by simpa using hb)]
      cases j with
      | zero => simp [hb]
      | succ j => simpa using ih hs (by simpa using hj)
    · have hnone : bs.filter (fun b => decide (b ≤ v)) = [] :=
        List.filter_eq_nil_iff.2 fun x hx => by have := hlt x hx; simp; omega
      have hge : b ≤ (b :: bs).getD j 0 := by
        cases j with
        | zero => exact Nat.le_refl b
        | succ j =>
          have hj : j < bs.length := by simpa using hj
          rw [List.getD_cons_succ, List.getD_eq_getElem _ _ hj]
          exact (hlt _ (List.getElem_mem hj)).le
      rw [List.filter_cons_of_neg (by simpa using hb), hnone]
      simp only [List.length_nil, Nat.not_lt_zero, iff_false]
      omega

/-- The last base at most v leaves a rest that fits its extra bits, where the extra bits reach to the next base. -/
theorem lastBase_spec {bases extra : List Nat} {v top : Nat} (hs : bases.Pairwise (· < ·)) (h0 : bases.getD 0 0 ≤ v)
    (hlen : 0 < bases.length) (htop : v < top)
    (hext : ∀ i < bases.length, (bases ++ [top]).getD (i + 1) 0 ≤ bases.getD i 0 + 2 ^ extra.getD i 0) :
    lastBase v bases < bases.length ∧ bases.getD (lastBase v bases) 0 ≤ v ∧
      v - bases.getD (lastBase v bases) 0 < 2 ^ extra.getD (lastBase v bases) 0 := by
  have hcount : (bases.filter (fun b => decide (b ≤ v))).length ≤ bases.length := List.length_filter_le _ _
  have hpos := (getD_le_iff_lt_filter hs v hlen).1 h0
  obtain ⟨i, hi⟩ : ∃ i, (bases.filter (fun b => decide (b ≤ v))).length = i + 1 := ⟨_, (Nat.sub_add_cancel hpos).symm⟩
  have hlast : lastBase v bases = i := by rw [lastBase, hi, Nat.add_sub_cancel]
  have hle : bases.getD i 0 ≤ v := (getD_le_iff_lt_filter hs v (by omega)).2 (by omega)
  have hnext : v < (bases ++ [top]).getD (i + 1) 0 := by
    by_cases hin : i + 1 < bases.length
    · have hnot := mt (getD_le_iff_lt_filter hs v hin).1 (by omega)
      rw [List.getD_append _ _ _ _ hin]
      omega
    · rw [List.getD_append_right _ _ _ _ (by omega), show i + 1 - bases.length = 0 by omega]
      exact htop
  have hfit := hext i (by omega)
  rw [hlast]
  exact ⟨by omega, hle, by omega⟩

/-- The length symbol of a length (R161, R165). -/
theorem lenCode_spec {l : Nat} (h3 : 3 ≤ l) (h258 : l ≤ 258) :
    lenCode l ≤ 28 ∧ (lenCode l = 28 ↔ l = 258) ∧ lenBase.getD (lenCode l) 0 ≤ l ∧
      l - lenBase.getD (lenCode l) 0 < 2 ^ lenExtra.getD (lenCode l) 0 := by
  by_cases hl : l = 258
  · subst hl
    decide
  · obtain ⟨hlt, hle, hfit⟩ := lastBase_spec (bases := lenBase.take 28) (extra := lenExtra) (top := 259) (v := l) (by decide)
      h3 (by decide) (by omega) (by decide)
    have hlt : lastBase l (lenBase.take 28) < 28 := hlt
    have hbase : (lenBase.take 28).getD (lastBase l (lenBase.take 28)) 0 = lenBase.getD (lastBase l (lenBase.take 28)) 0 := by
      simp only [List.getD_eq_getElem?_getD, List.getElem?_take_of_lt hlt]
    rw [hbase] at hle hfit
    rw [lenCode, if_neg hl]
    exact ⟨by omega, by omega, hle, hfit⟩

/-- The distance symbol of a distance (R162, R166). -/
theorem distCode_spec {d : Nat} (h1 : 1 ≤ d) (hmax : d ≤ 32768) :
    distCode d ≤ 29 ∧ distBase.getD (distCode d) 0 ≤ d ∧ d - distBase.getD (distCode d) 0 < 2 ^ distExtra.getD (distCode d) 0 := by
  obtain ⟨hlt, hle, hfit⟩ := lastBase_spec (bases := distBase) (extra := distExtra) (top := 32769) (v := d) (by decide) h1
    (by decide) (by omega) (by decide)
  exact ⟨Nat.le_of_lt_succ hlt, hle, hfit⟩

/-- A symbol's code, and its extra bits where it has some. -/
theorem symOps_eq (code len v w : Nat) : symOps code len v w = [.bits code len] ++ (if w = 0 then [] else [.bits v w]) := by
  by_cases h : w = 0 <;> simp [symOps, h, Nat.pos_iff_ne_zero]

/-! ## The choice of the type (R402) -/

theorem blockKind_spec (level n : Nat) (p : BlockPlan) (h : level ≠ 0) :
    (blockKind level n p = 0 ↔ storedBits n < fixedBits p ∧ storedBits n < dynamicBits p) ∧
    (blockKind level n p = 1 ↔ fixedBits p ≤ dynamicBits p ∧ fixedBits p ≤ storedBits n) ∧
    (blockKind level n p = 2 ↔ dynamicBits p < fixedBits p ∧ dynamicBits p ≤ storedBits n) := by
  unfold blockKind
  split
  case isTrue hstored => omega
  case isFalse hother =>
    split
    case isTrue hfixed => omega
    case isFalse hdynamic => omega

/-- Settles O37: the cheapest type, a run-length code that expands to its list, and a match as two symbols with their rests. -/
theorem blocksAreChosenAndWritten : Obligations.BlocksAreChosenAndWritten := by
  refine ⟨fun level n p => ⟨fun h => if_pos (Or.inl h), blockKind_spec level n p⟩, fun lens h => rle_spec h,
    fun cc cl dc dl x => rfl, fun cc cl dc dl l d h3 h258 h1 hmax => ?_⟩
  obtain ⟨hi, h28, hlb, hlx⟩ := lenCode_spec h3 h258
  obtain ⟨hj, hdb, hdx⟩ := distCode_spec h1 hmax
  refine ⟨lenCode l, distCode d, hi, hj, h28, hlb, hlx, hdb, hdx, ?_⟩
  have hd : d ≠ 0 := by omega
  simp only [pairOps, hd, if_false, symOps_eq, List.append_assoc]

end Sys2Proof.Machine
end

section
/-! PROOFS. Reading a stream from IN (45_bitstream.md R340, R345, R351, R352) and the symbols of its block headers
(47_deflate_decompressor.md R455-R458). -/

namespace Sys2Proof.Machine

/-! ## The bits ahead of the reader (10_state.md R88) -/

theorem leValue_lt (bs : Bytes) : leValue bs < 2 ^ (8 * bs.length) := by
  induction bs with
  | nil => exact Nat.one_pos
  | cons b bs ih =>
    have hb := b.isLt
    simp only [leValue, List.length_cons, Nat.mul_add, Nat.pow_add]
    omega

theorem leValue_split (bs : Bytes) (k : Nat) (hk : k ≤ bs.length) :
    leValue bs = leValue (bs.take k) + leValue (bs.drop k) * 2 ^ (8 * k) := by
  have happ := leValue_append (bs.take k) (bs.drop k)
  rwa [List.take_append_drop, List.length_take_of_le hk] at happ

/-- The bits ahead are those held after k pops, and the rest of IN above them. -/
theorem bitsAhead_split {s : State} {k : Nat} (hk : k ≤ s.inq.length) :
    bitsAhead s = (s.br.acc.toNat + leValue (s.inq.take k) * 2 ^ s.br.n) +
      2 ^ (s.br.n + 8 * k) * leValue (s.inq.drop k) := by
  rw [bitsAhead, leValue_split s.inq k hk, Nat.pow_add]
  ring

section Ahead

variable {s : State} (hok : s.readerOk) {k : Nat} (hk : k ≤ s.inq.length)

include hok hk

theorem popped_lt : s.br.acc.toNat + leValue (s.inq.take k) * 2 ^ s.br.n < 2 ^ (s.br.n + 8 * k) := by
  have hlt := leValue_lt (s.inq.take k)
  rw [List.length_take_of_le hk] at hlt
  exact add_shift_fits hok.2 hlt

theorem bitsAhead_mod : bitsAhead s % 2 ^ (s.br.n + 8 * k) = s.br.acc.toNat + leValue (s.inq.take k) * 2 ^ s.br.n := by
  rw [bitsAhead_split hk, Nat.add_mul_mod_self_left, Nat.mod_eq_of_lt (popped_lt hok hk)]

theorem bitsAhead_div : bitsAhead s / 2 ^ (s.br.n + 8 * k) = leValue (s.inq.drop k) := by
  rw [bitsAhead_split hk, Nat.add_mul_div_left _ _ (Nat.two_pow_pos _), Nat.div_eq_of_lt (popped_lt hok hk), Nat.zero_add]

end Ahead

/-! ## Refill and ReadBits (R340, R345) -/

/-- Refill pops the least bytes that hold l bits, all of them where they do not (44_huffman_decoder.md R295). -/
theorem refillLoop_eq {l : Nat} (hl : l ≤ 24) (bs : Bytes) {acc : Word} {n : Nat} (ha : acc.toNat < 2 ^ n) (pops : Nat) :
    ∃ k, k = min ((l - n + 7) / 8) bs.length ∧ refillLoop l acc n pops bs =
      ⟨BitVec.ofNat 32 (acc.toNat + leValue (bs.take k) * 2 ^ n), n + 8 * k, bs.drop k, pops + k⟩ := by
  induction bs generalizing acc n pops with
  | nil => exact ⟨0, by simp, by simp [refillLoop, leValue]⟩
  | cons b bs ih =>
    by_cases hn : n < l
    · have hpop := pop_value b (n := n) (by omega) ha
      obtain ⟨k, hk, heq⟩ := ih (acc := acc ||| (b.setWidth 32 <<< n)) (n := n + 8)
        (by rw [hpop]; exact add_shift_lt ha b.isLt) (pops + 1)
      refine ⟨k + 1, by simp only [List.length_cons]; omega, ?_⟩
      have hvalue : acc.toNat + b.toNat * 2 ^ n + leValue (bs.take k) * 2 ^ (n + 8) =
          acc.toNat + leValue ((b :: bs).take (k + 1)) * 2 ^ n := by
        simp only [List.take_succ_cons, leValue, Nat.pow_add]
        ring
      rw [refillLoop, if_pos hn, heq, hpop, hvalue]
      simp only [List.drop_succ_cons, BitSrc.mk.injEq, true_and]
      omega
    · refine ⟨0, by omega, ?_⟩
      simp [refillLoop, hn, leValue]

theorem inflSrc_input {s : State} (h : s.infl.src = .input) : inflSrc s = ⟨s.br.acc, s.br.n, s.inq, 0⟩ := by
  simp only [inflSrc, h]

theorem inflPut_input {s : State} (h : s.infl.src = .input) (b : BitSrc) : inflPut s b = { s with
    br := ⟨b.acc, b.n⟩
    inq := b.bytes
    infl := { s.infl with consumed := s.infl.consumed + toWord b.pops } } := by
  simp only [inflPut, h]

/-- A refill from IN that finds its n bits: the M bits held after it are the first of those ahead. -/
theorem refill_input {s : State} {n : Nat} (hsrc : s.infl.src = .input) (hok : s.readerOk) (hn : n ≤ 24)
    (hheld : n ≤ bitsHeld s) : ∃ k M, k = (n - s.br.n + 7) / 8 ∧ M = s.br.n + 8 * k ∧ n ≤ M ∧ M < 32 ∧
      (inflSrc s).refill n = ⟨BitVec.ofNat 32 (bitsAhead s % 2 ^ M), M, s.inq.drop k, k⟩ := by
  obtain ⟨k, hk, href⟩ := refillLoop_eq hn s.inq hok.2 0
  have hn32 := hok.1
  simp only [bitsHeld] at hheld
  refine ⟨k, _, by omega, rfl, by omega, by omega, ?_⟩
  rw [inflSrc_input hsrc, bitsAhead_mod hok (by omega)]
  exact href.trans (by rw [Nat.zero_add])

/-- The n lowest of M bits held. -/
theorem ofNat_low {X n M : Nat} (hn : n ≤ M) (hM : M < 32) :
    (BitVec.ofNat 32 (X % 2 ^ M)).toNat % 2 ^ n = X % 2 ^ n := by
  have hlt : X % 2 ^ M < 2 ^ 32 := (Nat.mod_lt _ (Nat.two_pow_pos M)).trans (Nat.pow_lt_pow_right (by decide) hM)
  rw [BitVec.toNat_ofNat, Nat.mod_eq_of_lt hlt, Nat.mod_mod_of_dvd _ (Nat.pow_dvd_pow 2 hn)]

/-- The bits above the n lowest of M bits held. -/
theorem ofNat_high {X n M : Nat} (hn : n ≤ M) (hM : M < 32) :
    BitVec.ofNat 32 (X % 2 ^ M) >>> n = BitVec.ofNat 32 (X / 2 ^ n % 2 ^ (M - n)) := by
  have hlt : X % 2 ^ M < 2 ^ 32 := (Nat.mod_lt _ (Nat.two_pow_pos M)).trans (Nat.pow_lt_pow_right (by decide) hM)
  have hdiv : X / 2 ^ n % 2 ^ (M - n) = X % 2 ^ M / 2 ^ n := by
    rw [← Nat.mod_mul_right_div_self, ← Nat.pow_add, Nat.add_sub_cancel' hn]
  apply BitVec.eq_of_toNat_eq
  rw [BitVec.toNat_ushiftRight, BitVec.toNat_ofNat, BitVec.toNat_ofNat, Nat.mod_eq_of_lt hlt, Nat.shiftRight_eq_div_pow, hdiv,
    Nat.mod_eq_of_lt (Nat.lt_of_le_of_lt (Nat.div_le_self _ _) hlt)]

/-- A source put back as it was taken. -/
theorem inflPut_inflSrc {s : State} (h : s.infl.src = .input) : inflPut s (inflSrc s) = s := by
  rw [inflPut_input h, inflSrc_input h]
  simp [toWord]

/-- A read of n bits that are there: their value, and the state with them read off. -/
theorem readBits_input {s : State} {n : Nat} (hsrc : s.infl.src = .input) (hok : s.readerOk) (hn : n ≤ 24)
    (hheld : n ≤ bitsHeld s) : readBits n s = .val (bitsAhead s % 2 ^ n) (readOff n s) := by
  obtain ⟨k, M, hk, hM, hnM, hM32, href⟩ := refill_input hsrc hok hn hheld
  simp only [readBits, href, Nat.not_lt.2 hnM, if_false, BitSrc.low, BitSrc.drop, ofNat_low hnM hM32, ofNat_high hnM hM32,
    inflPut_input hsrc]
  rw [readOff, ← hk, ← hM]

/-! ## Reads in sequence -/

theorem readOff_eq {m k N : Nat} {s : State} (hk : k = (m - s.br.n + 7) / 8) (hN : N = s.br.n + 8 * k - m) :
    readOff m s = { s with
      br := ⟨BitVec.ofNat 32 (bitsAhead s / 2 ^ m % 2 ^ N), N⟩
      inq := s.inq.drop k
      infl := { s.infl with consumed := s.infl.consumed + toWord k } } := by
  subst hk hN
  rfl

/-- With no bit read off the state is as it was. -/
theorem readOff_zero {s : State} (hok : s.readerOk) : readOff 0 s = s := by
  have hk : (0 - s.br.n + 7) / 8 = 0 := by omega
  have hacc : BitVec.ofNat 32 (bitsAhead s % 2 ^ s.br.n) = s.br.acc := by
    have hmod := bitsAhead_mod hok (Nat.zero_le s.inq.length)
    rw [Nat.mul_zero, Nat.add_zero, List.take_zero, leValue, Nat.zero_mul, Nat.add_zero] at hmod
    rw [hmod, BitVec.ofNat_toNat, BitVec.setWidth_eq]
  simp only [readOff, hk, Nat.pow_zero, Nat.div_one, Nat.mul_zero, Nat.add_zero, Nat.sub_zero, hacc, List.drop_zero, toWord]
  simp

section ReadOff

variable {s : State} (hok : s.readerOk) {m : Nat} (hm : m ≤ bitsHeld s)

include hok hm

/-- The reader's count after m bits are read off, and the bytes they take. -/
theorem readOff_count : (m - s.br.n + 7) / 8 ≤ s.inq.length ∧ m ≤ s.br.n + 8 * ((m - s.br.n + 7) / 8) ∧
    s.br.n + 8 * ((m - s.br.n + 7) / 8) - m < 32 := by
  have hn := hok.1
  simp only [bitsHeld] at hm
  omega

theorem readOff_acc : (readOff m s).br.acc.toNat = bitsAhead s / 2 ^ m % 2 ^ (readOff m s).br.n := by
  obtain ⟨-, -, hlt⟩ := readOff_count hok hm
  refine (BitVec.toNat_ofNat _ _).trans (Nat.mod_eq_of_lt ?_)
  exact (Nat.mod_lt _ (Nat.two_pow_pos _)).trans (Nat.pow_lt_pow_right (by decide) hlt)

theorem readOff_readerOk : (readOff m s).readerOk := by
  refine ⟨(readOff_count hok hm).2.2, ?_⟩
  rw [readOff_acc hok hm]
  exact Nat.mod_lt _ (Nat.two_pow_pos _)

theorem readOff_bitsHeld : bitsHeld (readOff m s) = bitsHeld s - m := by
  obtain ⟨hk, hle, -⟩ := readOff_count hok hm
  simp only [bitsHeld, readOff, List.length_drop]
  omega

theorem readOff_bitsAhead : bitsAhead (readOff m s) = bitsAhead s / 2 ^ m := by
  obtain ⟨hk, hle, -⟩ := readOff_count hok hm
  have hhigh : leValue (readOff m s).inq = bitsAhead s / 2 ^ m / 2 ^ (readOff m s).br.n := by
    rw [Nat.div_div_eq_div_mul, ← Nat.pow_add]
    show _ = bitsAhead s / 2 ^ (m + (s.br.n + 8 * ((m - s.br.n + 7) / 8) - m))
    rw [Nat.add_sub_cancel' hle, bitsAhead_div hok hk]
    rfl
  rw [bitsAhead, readOff_acc hok hm, hhigh, Nat.mul_comm]
  exact Nat.mod_add_div _ _

theorem readOff_readOff (n : Nat) : readOff n (readOff m s) = readOff (m + n) s := by
  obtain ⟨k1, hk1⟩ : ∃ k, k = (m - s.br.n + 7) / 8 := ⟨_, rfl⟩
  obtain ⟨k2, hk2⟩ : ∃ k, k = (n - (readOff m s).br.n + 7) / 8 := ⟨_, rfl⟩
  have hfirst := readOff_eq hk1 rfl
  have hN1 : (readOff m s).br.n = s.br.n + 8 * k1 - m := by rw [hfirst]
  have hahead : bitsAhead (readOff m s) / 2 ^ n = bitsAhead s / 2 ^ (m + n) := by
    rw [readOff_bitsAhead hok hm, Nat.div_div_eq_div_mul, ← Nat.pow_add]
  have hwords : s.infl.consumed + toWord k1 + toWord k2 = s.infl.consumed + toWord (k1 + k2) := by
    rw [toWord, toWord, toWord, BitVec.ofNat_add, BitVec.add_assoc]
  rw [readOff_eq hk2 rfl, hahead, readOff_eq (m := m + n) (s := s) (k := k1 + k2) (by omega) rfl,
    show (readOff m s).br.n + 8 * k2 - n = s.br.n + 8 * (k1 + k2) - (m + n) by omega, ← hwords, ← List.drop_drop, hfirst]

/-- A read after m bits are read off. -/
theorem readBits_readOff {n : Nat} (hsrc : s.infl.src = .input) (hn : n ≤ 24) (hmn : m + n ≤ bitsHeld s) :
    readBits n (readOff m s) = .val (bitsAhead s / 2 ^ m % 2 ^ n) (readOff (m + n) s) := by
  rw [readBits_input (s := readOff m s) hsrc (readOff_readerOk hok hm) hn (by rw [readOff_bitsHeld hok hm]; omega),
    readOff_bitsAhead hok hm, readOff_readOff hok hm]

end ReadOff

/-! ## A stored block (47_deflate_decompressor.md R456) -/

theorem readByte_eq {s : State} (h : s.br.n % 8 = 0) : readByte s = readBits 8 s := if_neg (by simp [h])

/-- An empty reader gives the next byte of IN. -/
theorem readByte_empty {s : State} {b : Byte} {bs : Bytes} (hsrc : s.infl.src = .input) (hbr : s.br = ⟨0, 0⟩)
    (hq : s.inq = b :: bs) : readByte s = .val b.toNat { s with
      inq := bs, infl := { s.infl with consumed := s.infl.consumed + 1 } } := by
  have hok : s.readerOk := by simp [State.readerOk, hbr]
  have hahead : bitsAhead s = b.toNat + 256 * leValue bs := by simp [bitsAhead, hbr, hq, leValue]
  have hvalue : bitsAhead s % 2 ^ 8 = b.toNat := by
    have hb := b.isLt
    omega
  have hn : s.br.n = 0 := by rw [hbr]
  rw [readByte_eq (by rw [hn]), readBits_input hsrc hok (by decide) (by simp [bitsHeld, hq]; omega), hvalue,
    readOff_eq (k := 1) (N := 0) (by rw [hn]) (by rw [hn]), Nat.pow_zero, Nat.mod_one, hq, hbr]
  rfl

/-- AlignR drops the bits of a byte begun (R352). -/
theorem inflAlign_input {s : State} (hsrc : s.infl.src = .input) (hok : s.readerOk) (h7 : s.br.n ≤ 7) :
    inflAlign s = { s with br := ⟨0, 0⟩ } := by
  have hdrop : s.br.acc >>> s.br.n = 0 := by
    apply BitVec.eq_of_toNat_eq
    rw [BitVec.toNat_ushiftRight, Nat.shiftRight_eq_div_pow, Nat.div_eq_of_lt hok.2]
    rfl
  have hmod : s.br.n % 8 = s.br.n := Nat.mod_eq_of_lt (by omega)
  simp only [inflAlign, inflSrc_input hsrc, BitSrc.align, BitSrc.drop, hmod, inflPut_input hsrc, hdrop, Nat.sub_self]
  simp [toWord]

theorem storedHeader_next {s : State} {b : Byte} {rest : Bytes} (hsrc : s.infl.src = .input) (hbr : s.br = ⟨0, 0⟩)
    (hq : s.inq = b :: rest) (k : Nat) (bs : Bytes) : storedHeader (k + 1) bs s =
      storedHeader k (bs ++ [b]) { s with
        inq := rest, infl := { s.infl with consumed := s.infl.consumed + 1, cont := .stored (bs ++ [b]) } } := by
  rw [storedHeader, readByte_empty hsrc hbr hq, Got.bind, BitVec.ofNat_toNat, BitVec.setWidth_eq]
  rfl

/-- The state after k bytes of the stored header are taken from IN, bs those taken so far, the reader empty. -/
def headerTaken (bs : Bytes) (k : Nat) (rest : Bytes) (s : State) : State :=
  { s with
    br := ⟨0, 0⟩
    inq := rest
    infl := { s.infl with consumed := s.infl.consumed + toWord k, cont := .stored bs } }

theorem storedHeader_input (more : Bytes) : ∀ {s : State} {bs rest : Bytes}, s.infl.src = .input → s.br = ⟨0, 0⟩ →
    s.infl.cont = .stored bs → s.inq = more ++ rest →
    storedHeader more.length bs s = storedHeader 0 (bs ++ more) (headerTaken (bs ++ more) more.length rest s) := by
  induction more with
  | nil =>
    intro s bs rest hsrc hbr hcont hq
    have hs : headerTaken bs 0 rest s = s := by
      have hq : s.inq = rest := hq
      have hcount : s.infl.consumed + toWord 0 = s.infl.consumed := BitVec.add_zero _
      rw [headerTaken, ← hbr, ← hcont, ← hq, hcount]
    rw [List.append_nil]
    exact congrArg (storedHeader 0 bs) hs.symm
  | cons b more ih =>
    intro s bs rest hsrc hbr hcont hq
    have hcount : s.infl.consumed + 1 + toWord more.length = s.infl.consumed + toWord (more.length + 1) := by
      rw [toWord, toWord, Nat.add_comm, BitVec.ofNat_add, BitVec.add_assoc]
      rfl
    have hnext := ih (s := { s with
      inq := more ++ rest
      infl := { s.infl with consumed := s.infl.consumed + 1, cont := .stored (bs ++ [b]) } }) hsrc hbr rfl rfl
    refine (storedHeader_next hsrc hbr hq more.length bs).trans (hnext.trans ?_)
    rw [List.append_assoc, headerTaken, headerTaken, List.length_cons, ← hcount]
    rfl

theorem xor_65535 {x : Nat} (h : x < 65536) : x ^^^ 65535 = 65535 - x := by
  have h16 := congrArg BitVec.toNat (BitVec.xor_allOnes (x := BitVec.ofNat 16 x))
  simpa [Nat.mod_eq_of_lt h] using h16

/-- NLEN is the complement of LEN, or the header is refused. -/
theorem storedHeader_checked (a b c d : Byte) (s : State) : storedHeader 0 [a, b, c, d] s =
    if a.toNat + 256 * b.toNat ≠ 65535 - (c.toNat + 256 * d.toNat) then failInfl .storedLenMismatch s
    else .ok { s with infl := { s.infl with
      phase := .storedCopy, cont := .none, storedRem := a.toNat + 256 * b.toNat } } := by
  have hlt : c.toNat + 256 * d.toNat < 65536 := by
    have := c.isLt
    have := d.isLt
    omega
  have hlen : leValue ([a, b, c, d].take 2) = a.toNat + 256 * b.toNat := rfl
  have hnlen : leValue ([a, b, c, d].drop 2) = c.toNat + 256 * d.toNat := rfl
  simp only [storedHeader, hlen, hnlen, xor_65535 hlt]
  rfl

theorem exec_blockStored {s : State} {fin : Bool} {a b c d : Byte} {rest : Bytes} (hsrc : s.infl.src = .input)
    (hok : s.readerOk) (h7 : s.br.n ≤ 7) (hq : s.inq = a :: b :: c :: d :: rest) : exec (.blockStored fin) s =
      finishWire (storedHeader 0 [a, b, c, d] (headerTaken [a, b, c, d] 4 rest (setBlock fin 0 s))) := by
  show finishWire (wireStored fin s) = _
  rw [wireStored, inflAlign_input (s := setBlock fin 0 s) hsrc hok h7]
  exact congrArg finishWire (storedHeader_input [a, b, c, d] (s := setCont (.stored []) { setBlock fin 0 s with br := ⟨0, 0⟩ })
    hsrc rfl rfl hq)

/-- A byte of a stored block (R456). -/
theorem runInfl_storedCopy {s : State} (h : s.infl.phase = .storedCopy) : runInfl s = storedByte s := by
  simp only [runInfl, inflFetch, h]

/-- A byte of the bits ahead. -/
theorem ofNat_mod_byte (X : Nat) : (BitVec.ofNat 8 (X % 2 ^ 8) : Byte) = BitVec.ofNat 8 X :=
  BitVec.eq_of_toNat_eq (by simp)

/-- A byte delivered to OUT where it has room (R464). -/
theorem output_room {b : Byte} {s : State} (hsrc : s.infl.src = .input) (hroom : outRoom s 1 = 1) :
    output b s = .ok { outputCounted b s with outq := s.outq ++ [b] } :=
  (output_input hsrc).trans (outPush_room (s := outputCounted b s) (bs := [b]) hroom)

theorem storedByte_next {s : State} {r : Nat} (hrem : s.infl.storedRem = r + 1) (ha : s.br.n % 8 = 0) : storedByte s =
    (readBits 8 s).bind fun b s =>
      output (BitVec.ofNat 8 b) { s with infl := { s.infl with storedRem := s.infl.storedRem - 1 } } := by
  rw [storedByte, if_neg (by omega), readByte_eq ha]

/-- With no whole byte ahead of an aligned reader nothing is popped. -/
theorem readBits_none {s : State} (hsrc : s.infl.src = .input) (ha : s.br.n % 8 = 0)
    (hheld : bitsHeld s < 8) :
    readBits 8 s = .stop (if s.inEnd = false then .hold (.inBytes 1) s else failInfl .truncated s) := by
  have hn : s.br.n = 0 := by
    simp only [bitsHeld] at hheld
    omega
  have hq : s.inq = [] := by
    simp only [bitsHeld] at hheld
    exact List.eq_nil_of_length_eq_zero (by omega)
  have hrefill : (inflSrc s).refill 8 = inflSrc s := by
    rw [inflSrc_input hsrc, hq]
    rfl
  have hless : (inflSrc s).n < 8 := by simp [inflSrc_input hsrc, hn]
  have hmore : inflMore s = !s.inEnd := by simp only [inflMore, hsrc]
  rw [readBits, hrefill, if_pos hless, inflPut_inflSrc hsrc, hmore]
  cases s.inEnd <;> rfl

/-! ## A dynamic block (R458) -/

/-- The state with the first i code-length code lengths of the bits v taken. -/
def cllenRead (v i : Nat) (s : State) : State :=
  { s with infl := { s.infl with cllen := headerCllen v i, cont := .cllen i } }

theorem ext_getD {l m : List Nat} (hlen : l.length = m.length) (h : ∀ j < l.length, l.getD j 0 = m.getD j 0) : l = m := by
  refine List.ext_getElem hlen fun j hl hm => ?_
  have hj := h j hl
  rwa [List.getD_eq_getElem _ _ hl, List.getD_eq_getElem _ _ hm] at hj

theorem headerCllen_getD (v h : Nat) {j : Nat} (hj : j < 19) :
    (headerCllen v h).getD j 0 = if clOrder.idxOf j < h then v / 2 ^ (14 + 3 * clOrder.idxOf j) % 8 else 0 := by
  simp [headerCllen, List.getD_eq_getElem?_getD, List.getElem?_range hj]

/-- CL_ORDER lists each code-length symbol once. -/
theorem clOrder_getD_eq_iff : ∀ i < 19, ∀ j < 19, clOrder.getD i 0 = j ↔ clOrder.idxOf j = i := by decide

theorem clOrder_getD_lt : ∀ i < 19, clOrder.getD i 0 < 19 := by decide

/-- The next code-length code length goes to its place. -/
theorem headerCllen_succ (v : Nat) {i : Nat} (hi : i < 19) :
    setAt (headerCllen v i) (clOrder.getD i 0) (v / 2 ^ (14 + 3 * i) % 8) = headerCllen v (i + 1) := by
  refine ext_getD (by simp [headerCllen]) fun j hj => ?_
  have hj : j < 19 := by simpa [headerCllen] using hj
  have hlt : clOrder.getD i 0 < 19 := clOrder_getD_lt i hi
  rw [getD_setAt, headerCllen_getD v i hj, headerCllen_getD v (i + 1) hj]
  by_cases heq : clOrder.getD i 0 = j
  · have hidx := (clOrder_getD_eq_iff i hi j hj).1 heq
    rw [if_pos ⟨heq, by simpa [headerCllen] using hlt⟩, hidx, if_pos (Nat.lt_succ_self i)]
  · have hidx := mt (clOrder_getD_eq_iff i hi j hj).2 heq
    rw [if_neg (fun h => heq h.1)]
    simp only [Nat.lt_succ_iff_lt_or_eq, hidx, or_false]

theorem cllenRead_zero (v : Nat) (s : State) : cllenRead v 0 s =
    { s with infl := { s.infl with cllen := List.replicate 19 0, cont := .cllen 0 } } := by
  have hzero : headerCllen v 0 = List.replicate 19 0 := by simp [headerCllen]
  rw [cllenRead, hzero]

/-- The code-length code lengths still to be read. -/
theorem readCllen_input {s : State} (hsrc : s.infl.src = .input) (hok : s.readerOk) {h : Nat} (hh : h ≤ 19)
    (hheld : 14 + 3 * h ≤ bitsHeld s) (k : Nat) : ∀ i, i + k = h →
      readCllen k i (readOff (14 + 3 * i) (cllenRead (bitsAhead s) i s)) =
        readCllen 0 h (readOff (14 + 3 * h) (cllenRead (bitsAhead s) h s)) := by
  induction k with
  | zero => rintro i rfl; rfl
  | succ k ih =>
    intro i hi
    have hread := readBits_readOff (s := cllenRead (bitsAhead s) i s) (m := 14 + 3 * i) (n := 3) hok (by show _ ≤ bitsHeld s; omega)
      hsrc (by decide) (by show _ ≤ bitsHeld s; omega)
    have hput : { readOff (14 + 3 * i + 3) (cllenRead (bitsAhead s) i s) with
        infl := { (readOff (14 + 3 * i + 3) (cllenRead (bitsAhead s) i s)).infl with
          cllen := setAt (headerCllen (bitsAhead s) i) (clOrder.getD i 0) (bitsAhead s / 2 ^ (14 + 3 * i) % 8)
          cont := .cllen (i + 1) } } = readOff (14 + 3 * (i + 1)) (cllenRead (bitsAhead s) (i + 1) s) := by
      rw [headerCllen_succ _ (by omega)]
      rfl
    refine Eq.trans ?_ (ih (i + 1) (by omega))
    rw [← hput]
    exact congrArg (fun g => Got.bind g _) hread

theorem inflBuild_some {t : Sel} {len : List Nat} (h : kraft len ≤ 32768) (s : State) (f : State → Res) :
    inflBuild t len s f = f (setTable s t ⟨len, true⟩) := by
  simp only [inflBuild, buildTable_some h]

/-- Build of the code-length code ends a dynamic header. -/
theorem readCllen_done {s : State} {len : List Nat} (hlen : s.infl.cllen = len) (hk : kraft len ≤ 32768) (i : Nat) :
    readCllen 0 i s = .ok { s with d2 := ⟨len, true⟩, infl := { s.infl with lenseq := [], cont := .clens } } := by
  subst hlen
  rw [readCllen, inflBuild_some hk]
  rfl

/-- HLIT, HDIST and HCLEN with their bits there: what is left is the range check of HLIT. -/
theorem readHlit_input {s : State} (hsrc : s.infl.src = .input) (hok : s.readerOk) (hheld : 14 ≤ bitsHeld s) {v : Nat}
    (hv : v = bitsAhead s) {s1 : State} (hs1 : s1 = { s with infl := { s.infl with
      hlit := v % 32 + 257, hdist := v / 32 % 32 + 1, hclen := v / 1024 % 16 + 4, cont := .hclen } }) :
    readHlit s = if 286 < v % 32 + 257 then failInfl .hlitRange (readOff 14 s1)
      else readCllen (v / 1024 % 16 + 4) 0 (readOff 14 (cllenRead v 0 s1)) := by
  subst hv hs1
  have h1 := readBits_input (n := 5) hsrc hok (by decide) (by omega)
  have h2 := readBits_readOff (s := { s with infl := { s.infl with hlit := bitsAhead s % 32 + 257, cont := .hdist } })
    (m := 5) (n := 5) hok (by show _ ≤ bitsHeld s; omega) hsrc (by decide) (by show _ ≤ bitsHeld s; omega)
  have h3 := readBits_readOff (s := { s with infl := { s.infl with
    hlit := bitsAhead s % 32 + 257, hdist := bitsAhead s / 32 % 32 + 1, cont := .hclen } })
    (m := 10) (n := 4) hok (by show _ ≤ bitsHeld s; omega) hsrc (by decide) (by show _ ≤ bitsHeld s; omega)
  have hhdist : readHlit s = readHdist (readOff 5 { s with infl := { s.infl with
      hlit := bitsAhead s % 32 + 257, cont := .hdist } }) := congrArg (fun g => Got.bind g _) h1
  have hhclen : readHlit s = readHclen (readOff 10 { s with infl := { s.infl with
      hlit := bitsAhead s % 32 + 257, hdist := bitsAhead s / 32 % 32 + 1, cont := .hclen } }) :=
    hhdist.trans (congrArg (fun g => Got.bind g _) h2)
  rw [cllenRead_zero]
  exact hhclen.trans (congrArg (fun g => Got.bind g _) h3)

/-- A dynamic header held whole, HLIT in range: the code-length code of its bits. -/
theorem readHlit_done {s : State} (hsrc : s.infl.src = .input) (hok : s.readerOk) {v h : Nat} (hv : v = bitsAhead s)
    (hh : h = v / 1024 % 16 + 4) (hheld : 14 + 3 * h ≤ bitsHeld s) (hlit : v % 32 + 257 ≤ 286)
    (hkraft : kraft (headerCllen v h) ≤ 32768) {s1 : State} (hs1 : s1 = { s with infl := { s.infl with
      hlit := v % 32 + 257, hdist := v / 32 % 32 + 1, hclen := v / 1024 % 16 + 4, cont := .hclen } }) :
    readHlit s = .ok (readOff (14 + 3 * h) { s1 with
      d2 := ⟨headerCllen v h, true⟩
      infl := { s1.infl with cllen := headerCllen v h, lenseq := [], cont := .clens } }) := by
  have hahead : v = bitsAhead s1 := by rw [hv, hs1]; rfl
  have hcllen := readCllen_input (s := s1) (by rw [hs1]; exact hsrc) (by rw [hs1]; exact hok) (h := h) (by omega)
    (by rw [hs1]; exact hheld) h 0 (Nat.zero_add h)
  rw [← hahead] at hcllen
  rw [readHlit_input hsrc hok (by omega) hv hs1, if_neg (Nat.not_lt.2 hlit), ← hh]
  exact hcllen.trans (readCllen_done (len := headerCllen v h) rfl hkraft h)

theorem failInfl_input (e : Err) (s : State) (hsrc : s.infl.src = .input) (he : e.cls ≠ 5) : failInfl e s =
    .raise e s.infl.consumed { s with infl := { s.infl with phase := .error, cont := .none } } := by
  simp only [failInfl, hsrc, if_neg he]

theorem exec_blockDynamic (fin : Bool) (s : State) :
    exec (.blockDynamic fin) s = finishWire (readHlit (setCont .hlit (setBlock fin 2 s))) := rfl

/-- Settles O40: the four types, then the copy of a stored block byte by byte. -/
theorem blockHeaderSymbols : Obligations.BlockHeaderSymbols := by
  refine ⟨fun s fin => rfl, fun s fin a b c d rest hsrc hok h7 hq => ⟨fun hlen => ?_, fun hlen => ?_⟩,
    fun s fin hsrc hok => ⟨fun hheld hlit => ?_, fun hheld hlit hkraft => ?_⟩, fun s fin hsrc => ?_,
    fun s hph hsrc hok ha => ⟨fun r hrem hheld hroom => ?_, fun hrem hheld hend => ?_, fun hrem hheld hend => ?_,
      fun hrem => ?_⟩⟩
  · rw [exec_blockStored hsrc hok h7 hq, storedHeader_checked, if_neg (not_not.2 hlen)]
    rfl
  · rw [exec_blockStored hsrc hok h7 hq, storedHeader_checked, if_pos hlen]
    exact finishWire_failInfl .storedLenMismatch (headerTaken [a, b, c, d] 4 rest (setBlock fin 0 s)) hsrc (by decide)
  · have hread := readHlit_input (s := setCont .hlit (setBlock fin 2 s)) (v := bitsAhead s) hsrc hok hheld rfl rfl
    rw [exec_blockDynamic, hread, if_pos hlit]
    refine (finishWire_failInfl .hlitRange _ ?_ (by decide)).trans ?_
    · exact hsrc
    · rfl
  · have hread := readHlit_done (s := setCont .hlit (setBlock fin 2 s)) (v := bitsAhead s) (h := bitsAhead s / 1024 % 16 + 4)
      hsrc hok rfl rfl hheld hlit hkraft rfl
    rw [exec_blockDynamic, hread]
    rfl
  · exact finishWire_failInfl .btypeReserved (setBlock fin 3 s) hsrc (by decide)
  · rw [runInfl_storedCopy hph, storedByte_next hrem ha, readBits_input hsrc hok (by decide) hheld]
    have hcount : s.infl.storedRem - 1 = r := by rw [hrem, Nat.add_sub_cancel]
    show output (BitVec.ofNat 8 (bitsAhead s % 2 ^ 8)) { readOff 8 s with
      infl := { (readOff 8 s).infl with storedRem := s.infl.storedRem - 1 } } = _
    rw [ofNat_mod_byte, hcount]
    exact output_room hsrc hroom
  · obtain ⟨r, hr⟩ := Nat.exists_eq_add_of_lt hrem
    rw [runInfl_storedCopy hph, storedByte_next (r := r) (by omega) ha, readBits_none hsrc ha hheld, if_pos hend]
    rfl
  · obtain ⟨r, hr⟩ := Nat.exists_eq_add_of_lt hrem
    rw [runInfl_storedCopy hph, storedByte_next (r := r) (by omega) ha, readBits_none hsrc ha hheld,
      if_neg (by simp [hend])]
    exact failInfl_input .truncated s hsrc (by decide)
  · rw [runInfl_storedCopy hph, storedByte, if_pos hrem, endOfBlock]
    cases s.infl.final <;> cases s.infl.nowrap <;> rfl

end Sys2Proof.Machine
end

section
/-! PROOFS. The wire symbols of the decompressor: length and distance symbols (47_deflate_decompressor.md R459-R462),
code-length symbols (R458), the zlib header and trailer (R454, R463). -/

namespace Sys2Proof.Machine

/-! ## Length symbols -/

/-- Settles O42: each arm names its code's base; 286 and 287 raise. -/
theorem lengthSymbolsGiveBasePlusExtra : Obligations.LengthSymbolsGiveBasePlusExtra := by
  refine ⟨fun s e => ⟨rfl, rfl, rfl, rfl, rfl, rfl, rfl, rfl, rfl, rfl, rfl, rfl, rfl, rfl, rfl, rfl, rfl, rfl, rfl, rfl, rfl,
    rfl, rfl, rfl, rfl, rfl, rfl, rfl, rfl⟩, fun s odd hsrc => ?_⟩
  exact finishWire_failInfl .litlenReserved s hsrc (by decide)

/-! ## The zlib wrapper -/

/-- Settles O45: the checks one after the other. -/
theorem zlibHeaderAndTrailerChecks : Obligations.ZlibHeaderAndTrailerChecks := by
  refine ⟨fun s cinfo flg hsrc => ⟨fun hpair hwin hdict => ?_, fun hpair => ?_, fun hpair hwin => ?_,
    fun hpair hwin hdict => ?_⟩, fun s t hsrc => ⟨fun ht => ?_, fun ht => ?_⟩⟩
  · show finishWire (wireZlibHeader cinfo flg s) = _
    rw [wireZlibHeader, if_neg (not_not.2 hpair), if_neg (Nat.not_lt.2 hwin), if_neg (by rw [hdict]; decide)]
    rfl
  · show finishWire (wireZlibHeader cinfo flg s) = _
    rw [wireZlibHeader, if_pos hpair, finishWire_failInfl .zlibFcheck s hsrc (by decide)]
  · show finishWire (wireZlibHeader cinfo flg s) = _
    rw [wireZlibHeader, if_neg (not_not.2 hpair), if_pos hwin, finishWire_failInfl .zlibWindow s hsrc (by decide)]
  · show finishWire (wireZlibHeader cinfo flg s) = _
    rw [wireZlibHeader, if_neg (not_not.2 hpair), if_neg (Nat.not_lt.2 hwin), if_pos hdict,
      finishWire_failInfl .zlibFdict s hsrc (by decide)]
  · show finishWire (wireZlibTrailer t s) = _
    rw [wireZlibTrailer, if_neg (not_not.2 ht)]
    rfl
  · show finishWire (wireZlibTrailer t s) = _
    rw [wireZlibTrailer, if_pos ht]
    exact finishWire_failInfl .adlerMismatch { s with infl := { s.infl with trailer := t } } hsrc (by decide)

/-! ## Code-length symbols -/

/-- A full sequence whose two parts both have a code: tables D0 and D1 of it (R458). -/
theorem lensAppended_full {s : State} (hfull : s.infl.lenseq.length = s.infl.hlit + s.infl.hdist)
    (h0 : kraft (s.infl.lenseq.take s.infl.hlit) ≤ 32768)
    (h1 : kraft ((s.infl.lenseq.take (s.infl.hlit + s.infl.hdist)).drop s.infl.hlit) ≤ 32768) :
    lensAppended s = .ok { s with
      d0 := ⟨s.infl.lenseq.take s.infl.hlit, true⟩
      d1 := ⟨(s.infl.lenseq.take (s.infl.hlit + s.infl.hdist)).drop s.infl.hlit, true⟩
      infl := { s.infl with phase := .huffmanDecode, cont := .none } } := by
  rw [lensAppended, if_neg (Nat.not_lt.2 hfull.ge), inflBuild_some h0]
  exact inflBuild_some (t := .one) h1 (setTable s .zero ⟨s.infl.lenseq.take s.infl.hlit, true⟩) _

/-- Instruction i appends ls to the sequence: where it stays short that is all, where it is full the tables are built. -/
def AppendsLens (i : Instr) (ls : List Nat) (s : State) : Prop :=
  (s.infl.lenseq.length + ls.length < s.infl.hlit + s.infl.hdist →
    exec i s = .next { s with infl := { s.infl with lenseq := s.infl.lenseq ++ ls, cont := .clens } }) ∧
  (s.infl.lenseq.length + ls.length = s.infl.hlit + s.infl.hdist →
    kraft ((s.infl.lenseq ++ ls).take s.infl.hlit) ≤ 32768 →
    kraft (((s.infl.lenseq ++ ls).take (s.infl.hlit + s.infl.hdist)).drop s.infl.hlit) ≤ 32768 →
    exec i s = .next { s with
      d0 := ⟨(s.infl.lenseq ++ ls).take s.infl.hlit, true⟩
      d1 := ⟨((s.infl.lenseq ++ ls).take (s.infl.hlit + s.infl.hdist)).drop s.infl.hlit, true⟩
      infl := { s.infl with lenseq := s.infl.lenseq ++ ls, phase := .huffmanDecode, cont := .none } })

section Repeat

variable {s : State} {v r : Nat} {i : Instr}

/-- An append that leaves the sequence short, and one that makes it full. -/
theorem exec_appendLens {ls : List Nat} (hls : ls = List.replicate r v) (hi : exec i s = finishWire (appendLens v r s)) :
    AppendsLens i ls s := by
  rw [AppendsLens, hi, appendLens, ← hls, ← List.length_append]
  refine ⟨fun hshort => ?_, fun hfull h0 h1 => ?_⟩
  · exact congrArg finishWire (if_pos hshort)
  · exact congrArg finishWire
      (lensAppended_full (s := { s with infl := { s.infl with lenseq := s.infl.lenseq ++ ls } }) hfull h0 h1)

/-- A repeat that stays inside the sequence is an append. -/
theorem exec_repeatLens (hi : exec i s = finishWire (repeatLens v r s))
    (hr : s.infl.lenseq.length + r ≤ s.infl.hlit + s.infl.hdist) : exec i s = finishWire (appendLens v r s) := by
  rw [hi, repeatLens, if_neg (Nat.not_lt.2 hr)]

theorem exec_repeatLens_appends {ls : List Nat} (hls : ls = List.replicate r v)
    (hi : exec i s = finishWire (repeatLens v r s)) :
    AppendsLens i ls s := by
  have hlen : ls.length = r := by rw [hls, List.length_replicate]
  refine ⟨fun hshort => ?_, fun hfull => ?_⟩
  · exact (exec_appendLens hls (exec_repeatLens hi (by omega))).1 hshort
  · exact (exec_appendLens hls (exec_repeatLens hi (by omega))).2 hfull

theorem exec_repeatLens_overruns (hi : exec i s = finishWire (repeatLens v r s)) (hsrc : s.infl.src = .input)
    (hr : s.infl.hlit + s.infl.hdist < s.infl.lenseq.length + r) : exec i s = .next (inflRaised .clenOverrun s) := by
  rw [hi, repeatLens, if_pos hr, finishWire_failInfl .clenOverrun s hsrc (by decide)]

end Repeat

/-- Symbol 16 repeats the last length (R163). -/
theorem exec_clRepeatPrev {s : State} {v : Nat} (hv : s.infl.lenseq.getLast? = some v) (e : Nat) :
    exec (.clRepeatPrev e) s = finishWire (repeatLens v (3 + e) s) := by
  show finishWire (wireClPrev e s) = _
  simp only [wireClPrev, hv]

/-- Settles O44: a plain length is an append, the repeats are appends where they fit. -/
theorem codeLengthSymbolsExtendTheSequence : Obligations.CodeLengthSymbolsExtendTheSequence := by
  refine fun s => ⟨fun v => exec_appendLens (r := 1) rfl rfl, fun v e hv => exec_repeatLens_appends rfl (exec_clRepeatPrev hv e),
    fun e => exec_repeatLens_appends rfl rfl, fun e => exec_repeatLens_appends rfl rfl,
    fun v e hv => exec_repeatLens_overruns (exec_clRepeatPrev hv e), fun e => exec_repeatLens_overruns rfl,
    fun e => exec_repeatLens_overruns rfl, fun e hsrc hnil => ?_⟩
  show finishWire (wireClPrev e s) = _
  simp only [wireClPrev, hnil, List.getLast?_nil]
  exact finishWire_failInfl .clenRepeatNoPrev s hsrc (by decide)

/-! ## Distance symbols -/

/-- The sums stay 16-bit values. -/
theorem adlerLoop_lt (bs : Bytes) : ∀ {s1 s2 : Nat}, s1 < 65536 → s2 < 65536 →
    (adlerLoop s1 s2 bs).1 < 65536 ∧ (adlerLoop s1 s2 bs).2 < 65536 := by
  induction bs with
  | nil => exact fun h1 h2 => ⟨h1, h2⟩
  | cons b bs ih =>
    intro s1 s2 _ _
    have hmod : ∀ x, x % Config.adlerMod < 65536 := fun x => (Nat.mod_lt x (by decide)).trans (by decide)
    exact ih (hmod _) (hmod _)

theorem adlerLoop_append (xs ys : Bytes) (s1 s2 : Nat) :
    adlerLoop s1 s2 (xs ++ ys) = adlerLoop (adlerLoop s1 s2 xs).1 (adlerLoop s1 s2 xs).2 ys := by
  induction xs generalizing s1 s2 with
  | nil => rfl
  | cons b xs ih => exact ih _ _

theorem adler_nil (st : Word) : adler st [] = st := by
  simp only [adler, adlerLoop, BitVec.ofNat_toNat, BitVec.setWidth_eq]
  exact (BitVec.extractLsb'_append_extractLsb'_eq_extractLsb' rfl).trans BitVec.extractLsb'_eq_self

section AdlerWord

variable {a b : Nat}

/-- The low half of a sum. -/
theorem adlerWord_low (ha : a < 65536) : ((BitVec.ofNat 16 b ++ BitVec.ofNat 16 a : Word).extractLsb' 0 16).toNat = a := by
  rw [BitVec.extractLsb'_append_eq_of_add_le (by decide)]
  simp [ha]

/-- The high half of a sum. -/
theorem adlerWord_high (hb : b < 65536) : ((BitVec.ofNat 16 b ++ BitVec.ofNat 16 a : Word).extractLsb' 16 16).toNat = b := by
  rw [BitVec.extractLsb'_append_eq_of_le (by decide)]
  simp [hb]

end AdlerWord

/-- The sum of a string is that of its second part from the sum of its first (R221). -/
theorem adler_append (st : Word) (xs ys : Bytes) : adler st (xs ++ ys) = adler (adler st xs) ys := by
  obtain ⟨h1, h2⟩ := adlerLoop_lt xs (st.extractLsb' 0 16).isLt (st.extractLsb' 16 16).isLt
  simp only [adler, adlerLoop_append, adlerWord_low h1, adlerWord_high h2]

theorem adler_cons (st : Word) (b : Byte) (bs : Bytes) : adler st (b :: bs) = adler (adler st [b]) bs :=
  adler_append st [b] bs

/-- The byte d back from a write place of the window (R461). -/
theorem backByte_toNat (p : BitVec 16) {d : Nat} (hd : d ≤ 32768) :
    (p - BitVec.ofNat 16 d).toNat = (p.toNat + 65536 + 0 - d) % 65536 := by
  rw [BitVec.toNat_sub, BitVec.toNat_ofNat, Nat.mod_eq_of_lt (show d < 2 ^ 16 by omega)]
  omega

section Copy

variable {owin : List Host.Cell} {p : BitVec 16} {b : Byte} {bs : Bytes} {l d : Nat}

/-- The bytes of a copy, the first put into the window before the rest is read: a distance below the length repeats them. -/
theorem copiedBytes_cons (hwf : Memory.wf owin = true) (h1 : 0 < d) (hd : d ≤ 32768)
    (hb : b = cellGet 0 owin ((p.toNat + 65536 + 0 - d) % 65536)) (hl : l ≤ 258)
    (hbs : ∀ k, k < l → bs.getD k 0 = if k < d then
      cellGet 0 (cellSet 0 owin p.toNat b) (((p + 1).toNat + 65536 + k - d) % 65536) else bs.getD (k - d) 0)
    (k : Nat) (hk : k < l + 1) : (b :: bs).getD k 0 = if k < d then
      cellGet 0 owin ((p.toNat + 65536 + k - d) % 65536) else (b :: bs).getD (k - d) 0 := by
  have hp := p.isLt
  have hnext : (p + 1).toNat = (p.toNat + 1) % 65536 := BitVec.toNat_add p 1
  cases k with
  | zero => rw [if_pos h1]; exact hb
  | succ k =>
    rw [List.getD_cons_succ, hbs k (by omega), hnext]
    obtain hlt | heq | hgt := Nat.lt_trichotomy (k + 1) d
    · rw [if_pos (by omega), if_pos hlt, cellGet_cellSet_other 0 b owin (by omega)]
      congr 1
      omega
    · have hplace : ((p.toNat + 1) % 65536 + 65536 + k - d) % 65536 = p.toNat := by omega
      rw [if_pos (by omega), if_neg (by omega), hplace, cellGet_cellSet_same 0 p.toNat b hwf, heq, Nat.sub_self]
      rfl
    · rw [if_neg (by omega), if_neg (by omega), show k + 1 - d = (k - d) + 1 by omega, List.getD_cons_succ]

/-- The window after a copy holds its bytes from the write place on. -/
theorem copiedWindow_cons {owin' : List Host.Cell} (hwf : Memory.wf owin = true) (hl : l ≤ 258)
    (hwin : ∀ q, q < 65536 → cellGet 0 owin' q = if (q + 65536 - (p + 1).toNat) % 65536 < l then
      bs.getD ((q + 65536 - (p + 1).toNat) % 65536) 0 else cellGet 0 (cellSet 0 owin p.toNat b) q)
    (q : Nat) (hq : q < 65536) : cellGet 0 owin' q = if (q + 65536 - p.toNat) % 65536 < l + 1 then
      (b :: bs).getD ((q + 65536 - p.toNat) % 65536) 0 else cellGet 0 owin q := by
  have hp := p.isLt
  have hnext : (p + 1).toNat = (p.toNat + 1) % 65536 := BitVec.toNat_add p 1
  rw [hwin q hq, hnext]
  by_cases hfirst : q = p.toNat
  · have hzero : (q + 65536 - p.toNat) % 65536 = 0 := by omega
    rw [if_neg (by omega), hzero, if_pos (Nat.succ_pos l), hfirst, cellGet_cellSet_same 0 p.toNat b hwf]
    rfl
  · obtain ⟨i, hi⟩ : ∃ i, (q + 65536 - p.toNat) % 65536 = i + 1 := Nat.exists_eq_succ_of_ne_zero (by omega)
    rw [hi, List.getD_cons_succ, cellGet_cellSet_other 0 b owin hfirst,
      show (q + 65536 - (p.toNat + 1) % 65536) % 65536 = i by omega]
    simp only [Nat.add_lt_add_iff_right]

end Copy

theorem outRoom_iff {s : State} {n : Nat} : outRoom s n = n ↔ ∀ c, s.params.outCap = some c → n ≤ c - s.outq.length := by
  unfold outRoom
  cases s.params.outCap <;> simp

/-- A byte delivered leaves room for one fewer. -/
theorem outRoom_push {s : State} {n : Nat} (h : outRoom s (n + 1) = n + 1) (b : Byte) :
    outRoom { s with outq := s.outq ++ [b] } n = n := by
  refine outRoom_iff.2 fun c hc => ?_
  have hroom := outRoom_iff.1 h c hc
  simp only [List.length_append, List.length_singleton]
  omega

/-- The state after one byte of a copy, r bytes still to go. -/
def copyStep (r d : Nat) (s : State) : State :=
  let b := cellGet 0 s.infl.owin (s.infl.owpos - BitVec.ofNat 16 d).toNat
  { outputCounted b (setCont (.copy r d) s) with outq := s.outq ++ [b] }

theorem copyLoop_step {s : State} {r d : Nat} (hsrc : s.infl.src = .input) (hroom : outRoom s 1 = 1) :
    copyLoop (r + 1) d s = copyLoop r d (copyStep r d s) := by
  rw [copyLoop, output_room (s := setCont (.copy r d) s) hsrc hroom]
  rfl

/-- One byte, then the rest of the copy, is the copy. -/
theorem copied_step {s t : State} {l d : Nat} (hwf : Memory.wf s.infl.owin = true) (h1 : 0 < d) (hd : d ≤ 32768)
    (hl : l ≤ 258) (h : Copied l d (copyStep l d s) t) : Copied (l + 1) d s t := by
  obtain ⟨bs, owin, hlen, hbs, hwin, rfl⟩ := h
  refine ⟨_ :: bs, owin, congrArg (· + 1) hlen, copiedBytes_cons hwf h1 hd (congrArg _ (backByte_toNat _ hd)) hl hbs,
    copiedWindow_cons hwf hl hwin, ?_⟩
  have hpos : s.infl.owpos + 1 + BitVec.ofNat 16 l = s.infl.owpos + BitVec.ofNat 16 (l + 1) := by
    rw [Nat.add_comm l 1, BitVec.ofNat_add, BitVec.add_assoc]
    rfl
  have hcount : s.infl.total + 1 + l = s.infl.total + (l + 1) := by omega
  rw [← hpos, ← hcount, List.append_cons, adler_cons]
  rfl

theorem copied_zero (d : Nat) (s : State) : Copied 0 d s (setCont .none s) := by
  refine ⟨[], s.infl.owin, rfl, fun k hk => absurd hk (Nat.not_lt_zero k), fun q _ => rfl, ?_⟩
  rw [List.append_nil, adler_nil, BitVec.add_zero]
  rfl

/-- The copy of a match (R461, R462). -/
theorem copyLoop_copied {d : Nat} (h1 : 0 < d) (hd : d ≤ 32768) (l : Nat) : ∀ {s : State}, s.infl.src = .input →
    outRoom s l = l → Memory.wf s.infl.owin = true → l ≤ 258 → ∃ t, copyLoop l d s = .ok t ∧ Copied l d s t := by
  induction l with
  | zero => exact fun {s} _ _ _ _ => ⟨_, rfl, copied_zero d s⟩
  | succ l ih =>
    intro s hsrc hroom hwf hl
    obtain ⟨t, hrun, hcopied⟩ := ih (s := copyStep l d s) hsrc (outRoom_push hroom _)
      (cellsFrom_cellSet 0 _ (Nat.zero_le _) hwf) (by omega)
    exact ⟨t, (copyLoop_step hsrc (outRoom_mono (by omega) hroom)).trans hrun, copied_step hwf h1 hd (by omega) hcopied⟩

/-- A distance symbol whose base and extra bits make the distance d. -/
theorem exec_dist {i : Instr} {c e d : Nat} {s : State} (hi : exec i s = finishWire (wireDist c e s))
    (hc : distBase.getD c 0 + e = d) (h1 : 0 < d) (hd : d ≤ 32768) :
    (CopyReady d s → ∃ t, exec i s = .next t ∧ Copied (pendingLen s) d s t) ∧
    (s.infl.src = .input → s.infl.total < d → exec i s = .next (inflRaised .distTooFar s)) := by
  rw [hi, wireDist, hc]
  refine ⟨fun ⟨hsrc, hroom, hwf, hlen, htotal⟩ => ?_, fun hsrc hfar => ?_⟩
  · obtain ⟨t, hrun, hcopied⟩ := copyLoop_copied h1 hd (pendingLen s) hsrc hroom hwf hlen
    exact ⟨t, by rw [if_neg (Nat.not_lt.2 htotal), hrun]; rfl, hcopied⟩
  · rw [if_pos hfar, finishWire_failInfl .distTooFar s hsrc (by decide)]

/-- Settles O43: each arm names its code, the copy is by induction on the length. -/
theorem distanceSymbolsCopyByteByByte : Obligations.DistanceSymbolsCopyByteByByte := by
  refine ⟨fun s e => ⟨exec_dist rfl rfl (by decide) (by decide), exec_dist rfl rfl (by decide) (by decide),
    exec_dist rfl rfl (by decide) (by decide), exec_dist rfl rfl (by decide) (by decide),
    fun he => exec_dist rfl rfl (by omega) (by omega),
    fun he => exec_dist rfl rfl (by omega) (by omega),
    fun he => exec_dist rfl rfl (by omega) (by omega),
    fun he => exec_dist rfl rfl (by omega) (by omega),
    fun he => exec_dist rfl rfl (by omega) (by omega),
    fun he => exec_dist rfl rfl (by omega) (by omega),
    fun he => exec_dist rfl rfl (by omega) (by omega),
    fun he => exec_dist rfl rfl (by omega) (by omega),
    fun he => exec_dist rfl rfl (by omega) (by omega),
    fun he => exec_dist rfl rfl (by omega) (by omega),
    fun he => exec_dist rfl rfl (by omega) (by omega),
    fun he => exec_dist rfl rfl (by omega) (by omega),
    fun he => exec_dist rfl rfl (by omega) (by omega),
    fun he => exec_dist rfl rfl (by omega) (by omega),
    fun he => exec_dist rfl rfl (by omega) (by omega),
    fun he => exec_dist rfl rfl (by omega) (by omega),
    fun he => exec_dist rfl rfl (by omega) (by omega),
    fun he => exec_dist rfl rfl (by omega) (by omega),
    fun he => exec_dist rfl rfl (by omega) (by omega),
    fun he => exec_dist rfl rfl (by omega) (by omega),
    fun he => exec_dist rfl rfl (by omega) (by omega),
    fun he => exec_dist rfl rfl (by omega) (by omega),
    fun he => exec_dist rfl rfl (by omega) (by omega),
    fun he => exec_dist rfl rfl (by omega) (by omega),
    fun he => exec_dist rfl rfl (by omega) (by omega),
    fun he => exec_dist rfl rfl (by omega) (by omega)⟩,
    fun s odd hsrc => ?_⟩
  exact finishWire_failInfl .distReserved s hsrc (by decide)

end Sys2Proof.Machine
end

section
/-! PROOFS. Commands that change an entry of the archive (48_zip_container.md R505, R506, R510), and the records of ZIP_OPEN's parse
(R522, R523). -/

namespace Sys2Proof.Machine

/-! ## Changing an entry -/

section ChangeEntry

variable {s : State} {e : Entry} (ho : s.zip.isOpen = true) (he : s.zip.entries[s.lat.r0.toNat]? = some e)

include ho he

/-- The checks of a command on an entry that is there. -/
theorem opened_item (opc : Nat) (f : Entry → Res) :
    zipOpened opc (begun s) (zipItem opc (argNat (begun s) 0) (begun s) f) = f e :=
  (zipOpened_ok (s := begun s) ho _).trans (zipItem_some (s := begun s) he f)

theorem exec_zipUpdate : exec .zipUpdate s = finish (fun s => guardErr (overInCap s (argNat s 1)) .badArg 0xA5 s <|
    takeCounted 0xA5 (argNat s 1) s fun b s =>
      .ok (putEntry (argNat s 0) { e with payload := b, pcomp := false, crc := 0, csize := 0, usize := 0 } s)) s := by
  show execZipUpdate s = _
  rw [execZipUpdate, finish, opened_item ho he]
  rfl

theorem exec_zipRemove : exec .zipRemove s = .next (complete { s with zip := { s.zip with
    entries := s.zip.entries.eraseIdx s.lat.r0.toNat } }) := by
  show execZipRemove s = _
  rw [execZipRemove, finish, opened_item ho he]
  rfl

theorem exec_zipSetItemLevel (hinfl : s.infl.phase.active = false) : exec .zipSetItemLevel s =
    launch (fun s => guardErr (decide (9 < argNat s 1)) .badArg 0xAB s <|
      if argNat s 1 ≠ e.level ∧ e.pcomp = true then
        .ok { startItem (argNat s 0) false e s with tasks := [.infl, .setLevel (argNat s 0) (argNat s 1)] }
      else .ok (putEntry (argNat s 0) { e with level := argNat s 1 } s)) s := by
  show execZipSetItemLevel s = _
  have hfree : ∀ r, inflFree 0xAB (begun s) r = r := fun r => by
    rw [inflFree, show (begun s).infl.phase.active = false from hinfl, guardErr_false]
  rw [execZipSetItemLevel, launch, hfree, opened_item ho he]
  rfl

end ChangeEntry

/-- Settles O48: after the checks each command is one change of the directory. -/
theorem changingAnEntry : Obligations.ChangingAnEntry := by
  refine fun s e ho he => ⟨fun hcap hlen => ?_, countedRefusals_finish (exec_zipUpdate ho he) rfl, ?_,
    fun hinfl hlevel hplain => ?_, fun hinfl hlevel => ?_⟩
  · have hlen : argNat (begun s) 1 ≤ (begun s).inq.length := hlen
    have hcap : overInCap (begun s) (argNat (begun s) 1) = false := hcap
    rw [exec_zipUpdate ho he, finish, counted_enough rfl hcap hlen]
    rfl
  · rw [exec_zipRemove ho he, List.eraseIdx_eq_take_drop_succ]
  · have hkeep : ¬ (s.lat.r1.toNat ≠ e.level ∧ e.pcomp = true) := by
      rintro ⟨hne, hcomp⟩
      obtain hp | hl := hplain
      · rw [hp] at hcomp
        exact absurd hcomp (by decide)
      · exact hne hl.symm
    rw [exec_zipSetItemLevel ho he hinfl]
    refine (launch_ok ?_).trans (congrArg Host.Outcome.next (run_nil (s := putEntry s.lat.r0.toNat
      { e with level := s.lat.r1.toNat } (begun s)) rfl))
    show guardErr (decide (9 < s.lat.r1.toNat)) .badArg 0xAB (begun s) _ = _
    rw [decide_eq_false (Nat.not_lt.2 hlevel), guardErr_false]
    exact if_neg hkeep
  · rw [exec_zipSetItemLevel ho he hinfl]
    refine launch_refuse ?_
    show guardErr (decide (9 < s.lat.r1.toNat)) .badArg 0xAB (begun s) _ = _
    rw [decide_eq_true hlevel, guardErr_true]

/-! ## Reads inside the image (R522) -/

theorem firstShort_none {l : Nat} {rs : List (Nat × Nat)} : firstShort l rs = none ↔ ∀ r ∈ rs, r.1 + r.2 ≤ l := by
  induction rs with
  | nil => simp [firstShort]
  | cons r rs ih =>
    by_cases hr : l < r.1 + r.2
    · simp [firstShort, hr]
    · simp [firstShort, hr, ih, Nat.not_lt.1 hr]

theorem firstShort_append {l : Nat} (rs ts : List (Nat × Nat)) :
    firstShort l (rs ++ ts) = (firstShort l rs).or (firstShort l ts) := by
  induction rs with
  | nil => rfl
  | cons r rs ih =>
    rw [List.cons_append, firstShort, firstShort, ih]
    split <;> rfl

/-- A field of four bytes is a word. -/
theorem rdLE_lt (img : Bytes) (o : Nat) : rdLE img o 4 < 4294967296 := by
  have hlen : ((img.drop o).take 4).length ≤ 4 := List.length_take_le _ _
  have hpow : 2 ^ (8 * ((img.drop o).take 4).length) ≤ 2 ^ 32 := Nat.pow_le_pow_right (by decide) (by omega)
  exact (leValue_lt _).trans_le hpow

/-- A word of the image is a record's signature or refused. -/
theorem decodeSignature_rdLE {img : Bytes} {o sig : Nat} (h : rdLE img o 4 ≠ sig) (i : Instr) :
    decodeSignature sig (rdLE img o 4) i = .error .signature := by
  rw [decodeSignature, Nat.mod_eq_of_lt (rdLE_lt img o), if_neg h]

theorem fetchRecord_short {f : Fmt} {o : Nat} {s : State} (h : s.zip.source.length < o + 4) :
    fetchRecord f o s = .other (failZip .zipRange o s) := if_pos h

theorem fetchRecord_word {f : Fmt} {o : Nat} {s : State} (h : o + 4 ≤ s.zip.source.length) :
    fetchRecord f o s = .word f (rdLE s.zip.source o 4) s := if_neg (Nat.not_lt.2 h)

section Cursor

variable {s : State} {f : Fmt} {o : Nat} (hf : zipFetch s = fetchRecord f o s)

include hf

/-- No room for a signature at the cursor. -/
theorem runZipParse_short (h : s.zip.source.length < o + 4) : runZipParse s = failZip .zipRange o s := by
  rw [runZipParse, hf, fetchRecord_short h]

/-- Another word at the cursor than the signature. -/
theorem runZipParse_badRecord (h : o + 4 ≤ s.zip.source.length) {d : DecodeError}
    (hd : decode f (rdLE s.zip.source o 4) = .error d) : runZipParse s = badRecord s := by
  simp only [runZipParse, hf, fetchRecord_word h, hd]

end Cursor

/-! ## The end record (R522) -/

section EndRecord

variable {s : State} {p : Nat} (hc : s.zip.cont = .eocd p)

include hc

theorem wireEnd_multidisk (h : ¬ (rdLE s.zip.source (p + 4) 2 = 0 ∧ rdLE s.zip.source (p + 6) 2 = 0 ∧
    rdLE s.zip.source (p + 8) 2 = rdLE s.zip.source (p + 10) 2)) : wireEnd s = failZip .zipMultidisk p s := by
  simp only [wireEnd, hc]
  exact if_pos (by tauto)

theorem wireEnd_single (h : rdLE s.zip.source (p + 4) 2 = 0 ∧ rdLE s.zip.source (p + 6) 2 = 0 ∧
    rdLE s.zip.source (p + 8) 2 = rdLE s.zip.source (p + 10) 2) : wireEnd s =
      if p < rdLE s.zip.source (p + 16) 4 + rdLE s.zip.source (p + 12) 4 then
        .raise .zipRange (Config.freeInfo s.freeCtr) { zipIdle s with freeCtr := s.freeCtr + 1 }
      else .ok { s with zip := { s.zip with
        list := [], cont := .dir (rdLE s.zip.source (p + 16) 4) (rdLE s.zip.source (p + 10) 2) } } := by
  simp only [wireEnd, hc]
  exact if_neg (by tauto)

end EndRecord

/-! ## A directory record (R522) -/

/-- The reads of a directory record's fixed fields, in R522's order. -/
def centralReads (q : Nat) : List (Nat × Nat) := [(q + 8, 2), (q + 10, 2), (q + 16, 4), (q + 20, 4), (q + 24, 4), (q + 28, 2),
  (q + 30, 2), (q + 32, 2), (q + 38, 4), (q + 42, 4)]

/-- All the fixed fields are inside the image when the record's 46 bytes are, and one is not when they are not. -/
theorem centralReads_none {q l : Nat} : firstShort l (centralReads q) = none ↔ q + 46 ≤ l := by
  rw [firstShort_none]
  simp only [centralReads, List.forall_mem_cons, List.not_mem_nil, false_imp_iff, implies_true, and_true]
  omega

/-- The entry that a directory record describes; its payload is at its local header. -/
def centralEntry (q : Nat) (s : State) : Entry :=
  { name := sub s.zip.source (q + 46) (rdLE s.zip.source (q + 28) 2)
    extAttr := toWord (rdLE s.zip.source (q + 38) 4)
    method := rdLE s.zip.source (q + 10) 2
    level := ctrlLevel s
    payload := []
    pcomp := rdLE s.zip.source (q + 10) 2 == 8
    crc := toWord (rdLE s.zip.source (q + 16) 4)
    csize := toWord (rdLE s.zip.source (q + 20) 4)
    usize := toWord (rdLE s.zip.source (q + 24) 4)
    loff := toWord (rdLE s.zip.source (q + 42) 4) }

section CentralRecord

variable {s : State} {q n : Nat} (hc : s.zip.cont = .dir q (n + 1))

include hc

theorem wireCentral_short {o : Nat} (h : (firstShort s.zip.source.length (centralReads q)).or
    (firstShort s.zip.source.length [(q + 46, rdLE s.zip.source (q + 28) 2)]) = some o) :
    wireCentral s = failZip .zipRange o s := by
  rw [← firstShort_append] at h
  simp only [centralReads, List.cons_append, List.nil_append] at h
  simp only [wireCentral, hc, h]

theorem wireCentral_inside (h : q + 46 + rdLE s.zip.source (q + 28) 2 ≤ s.zip.source.length) : wireCentral s =
    if rdLE s.zip.source (q + 8) 2 % 2 = 1 then failZip .zipEncrypted q s
    else if rdLE s.zip.source (q + 10) 2 ≠ 0 ∧ rdLE s.zip.source (q + 10) 2 ≠ 8 then failZip .zipMethod q s
    else .ok (setZipCont (.loc q (q + 46 + rdLE s.zip.source (q + 28) 2 + rdLE s.zip.source (q + 30) 2 +
      rdLE s.zip.source (q + 32) 2) n (rdLE s.zip.source (q + 42) 4) (rdLE s.zip.source (q + 20) 4) (centralEntry q s)) s) := by
  have hreads : firstShort s.zip.source.length (centralReads q ++ [(q + 46, rdLE s.zip.source (q + 28) 2)]) = none := by
    rw [firstShort_append, centralReads_none.2 (by omega), firstShort_none.2 (by simpa using h)]
    rfl
  simp only [centralReads, List.cons_append, List.nil_append] at hreads
  simp only [wireCentral, hc, hreads]
  rfl

end CentralRecord

/-! ## A local header (R523) -/

section LocalHeader

variable {s : State} {q q2 n lo cs : Nat} {e : Entry} (hc : s.zip.cont = .loc q q2 n lo cs e) {d : Nat}
  (hd : d = lo + 30 + rdLE s.zip.source (lo + 26) 2 + rdLE s.zip.source (lo + 28) 2)

include hc hd

theorem wireLocal_short {o : Nat} (h : firstShort s.zip.source.length [(lo + 26, 2), (lo + 28, 2), (d, cs)] = some o) :
    wireLocal s = failZip .zipRange o s := by
  subst hd
  simp only [wireLocal, hc, h]

theorem wireLocal_inside (hlo : lo + 30 ≤ s.zip.source.length) (hcs : d + cs ≤ s.zip.source.length) : wireLocal s =
    if hasName s.zip.list e.name then failZip .zipDupName q s
    else .ok { s with zip := { s.zip with
      list := s.zip.list ++ [{ e with payload := sub s.zip.source d cs }], cont := .dir q2 n } } := by
  have hreads : firstShort s.zip.source.length [(lo + 26, 2), (lo + 28, 2), (d, cs)] = none := by
    rw [firstShort_none]
    simp only [List.forall_mem_cons, List.not_mem_nil, false_imp_iff, implies_true, and_true]
    omega
  subst hd
  simp only [wireLocal, hc, hreads]

end LocalHeader

/-- Settles O52: each record read field by field, in R522's and R523's order. -/
theorem archiveRecordsAsTheyAreParsed : Obligations.ArchiveRecordsAsTheyAreParsed := by
  refine ⟨fun s p hc => ⟨fun hsingle hin => ?_, fun hsingle hout => ?_, fun hmulti => ?_⟩,
    fun s q n hc => ⟨fun hin henc hm => ?_, fun hin henc => ?_, fun hin henc h0 h8 => ?_, fun hin hout => ?_, fun hout => ?_⟩,
    fun s q q2 n lo cs e hc => ⟨fun hlo hcs hname => ?_, fun hlo hcs hname => ?_, fun hlo hcs => ?_, fun hlo => ?_⟩,
    fun s q n hc => ?_, fun s q q2 n lo cs e hc => ?_⟩
  · exact congrArg finishWire ((wireEnd_single hc hsingle).trans (if_neg (Nat.not_lt.2 hin)))
  · exact congrArg finishWire ((wireEnd_single hc hsingle).trans (if_pos hout))
  · exact congrArg finishWire (wireEnd_multidisk hc hmulti)
  · have hmethod : ¬ (rdLE s.zip.source (q + 10) 2 ≠ 0 ∧ rdLE s.zip.source (q + 10) 2 ≠ 8) := by tauto
    exact congrArg finishWire ((wireCentral_inside hc hin).trans ((if_neg (by omega)).trans (if_neg hmethod)))
  · exact congrArg finishWire ((wireCentral_inside hc hin).trans (if_pos henc))
  · exact congrArg finishWire ((wireCentral_inside hc hin).trans ((if_neg (by omega)).trans (if_pos ⟨h0, h8⟩)))
  · have hname : firstShort s.zip.source.length [(q + 46, rdLE s.zip.source (q + 28) 2)] = some (q + 46) := if_pos hout
    exact congrArg finishWire (wireCentral_short hc (by rw [centralReads_none.2 hin, hname]; rfl))
  · obtain ⟨o, ho⟩ := Option.ne_none_iff_exists'.1 (mt (centralReads_none (q := q)).1 (Nat.not_le.2 hout))
    exact ⟨o, ho, congrArg finishWire (wireCentral_short hc (by rw [ho]; rfl))⟩
  · exact congrArg finishWire ((wireLocal_inside hc rfl hlo hcs).trans (if_neg (by simp [hname])))
  · exact congrArg finishWire ((wireLocal_inside hc rfl hlo hcs).trans (if_pos hname))
  · have h26 : ¬ s.zip.source.length < lo + 26 + 2 := by omega
    have h28 : ¬ s.zip.source.length < lo + 28 + 2 := by omega
    exact congrArg finishWire (wireLocal_short hc rfl ((if_neg h26).trans ((if_neg h28).trans (if_pos hcs))))
  · refine congrArg finishWire (wireLocal_short hc rfl ?_)
    by_cases h28 : s.zip.source.length < lo + 28
    · rw [if_pos h28]
      exact if_pos h28
    · rw [if_neg h28]
      exact (if_neg h28).trans (if_pos hlo)
  · have hf : zipFetch s = fetchRecord .cdh q s := by simp only [zipFetch, hc]
    refine ⟨fun hout => runZipParse_short hf hout, fun hin hsig => ?_⟩
    rw [runZipParse_badRecord hf hin (decodeSignature_rdLE hsig .zipCentralRecord)]
    simp only [badRecord, hc]
    rfl
  · have hf : zipFetch s = fetchRecord .lfh lo s := by simp only [zipFetch, hc]
    refine ⟨fun hout => runZipParse_short hf hout, fun hin hsig => ?_⟩
    rw [runZipParse_badRecord hf hin (decodeSignature_rdLE hsig .zipLocalHeader)]
    simp only [badRecord, hc]
    rfl

end Sys2Proof.Machine
end

section
/-! PROOFS. The system commands (40_system_commands.md R200, R201): each completes at once, in every state. -/

namespace Sys2Proof.Machine

/-! ## NOP (R200) -/

/-- NOP is decoded from OPC alone (R141). -/
theorem decodeCmd_nop {w : Word} (h : cmdOpc w = 0x00) : decodeCmd w = .ok .nop := by
  simp only [decodeCmd, h]

theorem exec_nop (s : State) : exec .nop s = .next (complete s) := finish_ok (f := .ok) (t := begun s) rfl

/-- Settles O11: the issue clears the report and latches the word, and NOP only completes. -/
theorem nopOnlyClearsTheReport : Obligations.NopOnlyClearsTheReport := by
  refine ⟨fun w => decodeCmd_nop, exec_nop, fun s w rest hb hh hopc => ?_⟩
  obtain ⟨issued, -⟩ := stepRunsTheCommandWord
  exact (issued s w rest .nop hb hh (decodeCmd_nop hopc)).trans (exec_nop _)

/-! ## RESET (R201) -/

/-- RESET is decoded from OPC alone (R141). -/
theorem decodeCmd_reset {w : Word} (h : cmdOpc w = 0x01) : decodeCmd w = .ok .reset := by
  simp only [decodeCmd, h]

/-- Nothing of the command is left for its end to clear: BUSY, the hold and the tasks are at their reset values. -/
theorem complete_softReset (s : State) : complete (softReset s) = softReset s := rfl

theorem exec_reset (s : State) : exec .reset s = .next (softReset s) :=
  (finish_ok (f := fun s => .ok (softReset s)) rfl).trans (congrArg Host.Outcome.next (complete_softReset (begun s)))

/-- Settles O12: RESET ends in the reset state with the host's data kept. -/
theorem resetCommandResetsAllButHostData : Obligations.ResetCommandResetsAllButHostData :=
  ⟨fun _ => decodeCmd_reset, exec_reset⟩

end Sys2Proof.Machine
end

section
/-! PROOFS. Canonical codes (41_bit_utilities.md R214, R215). The codes of one length are consecutive; `endCode` is the number just
above them, so the codes of the next length begin at twice it. In units of 2^-l it is the Kraft sum of the lengths up to l: at
most 1, which makes the codes fit, and never falling, which keeps longer codes above shorter ones. -/

namespace Sys2Proof.Machine

/-- One above the last code of length l: NEXT[l] where the second loop of R214 ends. -/
def endCode (len : List Nat) : Nat → Nat
  | 0 => 0
  | l + 1 => endCode len l * 2 + countLen len (l + 1)

/-! ## The bounds of R215 -/

/-- A symbol of length x takes 2^(l - x) of the codes of length l. -/
theorem endCode_cons (x : Nat) (xs : List Nat) (l : Nat) :
    endCode (x :: xs) l = endCode xs l + if 0 < x ∧ x ≤ l then 2 ^ (l - x) else 0 := by
  induction l with
  | zero => rw [if_neg (by omega)]; rfl
  | succ l ih =>
    rw [endCode, endCode, ih, countLen, countLen, List.count_cons]
    obtain hx | rfl | hx : x ≤ l ∨ x = l + 1 ∨ l + 1 < x := by omega
    · have hpow : 2 ^ (l + 1 - x) = 2 ^ (l - x) * 2 := by rw [Nat.succ_sub hx, Nat.pow_succ]
      grind
    · grind
    · grind

theorem kraft_eq_endCode {len : List Nat} (h : ∀ l ∈ len, l ≤ 15) : kraft len = endCode len 15 := by
  induction len with
  | nil => rfl
  | cons x xs ih =>
    obtain ⟨hx, hxs⟩ := List.forall_mem_cons.1 h
    rw [kraft, endCode_cons, ih hxs]
    grind

theorem endCode_mul_le (len : List Nat) {l m : Nat} (h : l ≤ m) : endCode len l * 2 ^ (m - l) ≤ endCode len m := by
  induction m, h using Nat.le_induction with
  | base => simp
  | succ m hlm ih =>
    rw [Nat.succ_sub hlm, Nat.pow_succ, endCode, ← Nat.mul_assoc]
    omega

/-- With a Kraft sum of at most 1 the codes of a length fit in it (R215). -/
theorem endCode_le {len : List Nat} (h : ∀ l ∈ len, l ≤ 15) (hk : kraft len ≤ 32768) {l : Nat} (hl : l ≤ 15) :
    endCode len l ≤ 2 ^ l := by
  have hsum : endCode len l * 2 ^ (15 - l) ≤ 2 ^ l * 2 ^ (15 - l) :=
    calc endCode len l * 2 ^ (15 - l) ≤ endCode len 15 := endCode_mul_le len hl
      _ = kraft len := (kraft_eq_endCode h).symm
      _ ≤ 2 ^ 15 := hk
      _ = 2 ^ l * 2 ^ (15 - l) := by rw [← Nat.pow_add, Nat.add_sub_cancel' hl]
  exact Nat.le_of_mul_le_mul_right hsum (Nat.two_pow_pos _)

/-! ## The code of a symbol (R214) -/

theorem length_nextCodes (len : List Nat) (k l c p : Nat) : (nextCodes len k l c p).length = k := by
  induction k generalizing l c p with
  | zero => rfl
  | succ k ih => rw [nextCodes, List.length_cons, ih]

/-- The first code of a length is twice the end of the length before. -/
theorem getD_nextCodes (len : List Nat) {k l c p i : Nat} (h : c + p = endCode len l) (hi : i < k) :
    (nextCodes len k (l + 1) c p).getD i 0 = endCode len (l + i) * 2 := by
  induction k generalizing l c p i with
  | zero => omega
  | succ k ih =>
    cases i with
    | zero => rw [nextCodes, List.getD_cons_zero, h, Nat.add_zero]
    | succ i =>
      have hnext : (c + p) * 2 + countLen len (l + 1) = endCode len (l + 1) := by rw [h, endCode]
      rw [nextCodes, List.getD_cons_succ, ih hnext (by omega), Nat.add_right_comm, Nat.add_assoc]

/-- A symbol's code is its length's first code plus the number of earlier symbols of that length. -/
theorem getD_assignCodes {next ls : List Nat} {s l : Nat} (hs : ls.getD s 0 = l + 1) (hl : l < next.length) :
    (assignCodes next ls).getD s 0 = next.getD l 0 + (ls.take s).count (l + 1) := by
  induction ls generalizing next s with
  | nil => simp at hs
  | cons x xs ih =>
    match x, s with
    | 0, 0 => simp at hs
    | x + 1, 0 =>
      obtain rfl : x = l := by simpa using hs
      simp [assignCodes]
    | 0, s + 1 =>
      rw [assignCodes, List.getD_cons_succ, ih hs hl]
      simp
    | x + 1, s + 1 =>
      rw [assignCodes, List.getD_cons_succ, ih hs (by rwa [setAt_length]), getD_setAt, List.take_succ_cons, List.count_cons]
      obtain rfl | hx := eq_or_ne x l
      · simp [hl]; omega
      · simp [hx]

theorem getD_canon {len : List Nat} {s l : Nat} (hs : len.getD s 0 = l + 1) (hl : l < 15) :
    (canon len).getD s 0 = endCode len l * 2 + (len.take s).count (l + 1) := by
  rw [canon, getD_assignCodes hs (by rwa [length_nextCodes]), getD_nextCodes len (l := 0) rfl hl, Nat.zero_add]

theorem lt_length_of_getD {len : List Nat} {s l : Nat} (hs : len.getD s 0 = l + 1) : s < len.length := by
  by_contra hge
  rw [List.getD_eq_default _ _ (Nat.le_of_not_lt hge)] at hs
  omega

/-- A symbol is counted among its length's from its successor on. -/
theorem count_take_lt {len : List Nat} {s u l : Nat} (hs : len.getD s 0 = l + 1) (hsu : s < u) :
    (len.take s).count (l + 1) < (len.take u).count (l + 1) := by
  have hlt := lt_length_of_getD hs
  have hsucc : (len.take (s + 1)).count (l + 1) = (len.take s).count (l + 1) + 1 := by
    rw [List.getD_eq_getElem _ _ hlt] at hs
    rw [List.take_succ_eq_append_getElem hlt, List.count_append, hs, List.count_singleton_self]
  have hle : (len.take (s + 1)).count (l + 1) ≤ (len.take u).count (l + 1) :=
    (List.take_sublist_take_left hsu).count_le _
  omega

theorem canon_lt_endCode {len : List Nat} {s l : Nat} (hs : len.getD s 0 = l + 1) (hl : l < 15) :
    (canon len).getD s 0 < endCode len (l + 1) := by
  have hcount : (len.take s).count (l + 1) < len.count (l + 1) := by
    simpa using count_take_lt hs (lt_length_of_getD hs)
  rw [getD_canon hs hl, endCode, countLen]
  omega

/-- Codes of one length rise with the symbol. -/
theorem canon_lt_canon {len : List Nat} {s u l : Nat} (hs : len.getD s 0 = l + 1) (hu : len.getD u 0 = l + 1) (hl : l < 15)
    (hsu : s < u) : (canon len).getD s 0 < (canon len).getD u 0 := by
  rw [getD_canon hs hl, getD_canon hu hl]
  exact Nat.add_lt_add_left (count_take_lt hs hsu) _

/-- The first bits of a longer code are a number above every code of a shorter length. -/
theorem endCode_le_canon_div {len : List Nat} {u l m : Nat} (hu : len.getD u 0 = m + 1) (hm : m < 15) (hlm : l ≤ m) :
    endCode len l ≤ (canon len).getD u 0 / 2 ^ (m + 1 - l) := by
  rw [Nat.le_div_iff_mul_le (Nat.two_pow_pos _)]
  calc endCode len l * 2 ^ (m + 1 - l) = endCode len l * 2 ^ (m - l) * 2 := by
        rw [Nat.succ_sub hlm, Nat.pow_succ, Nat.mul_assoc]
    _ ≤ endCode len m * 2 := Nat.mul_le_mul_right 2 (endCode_mul_le len hlm)
    _ ≤ (canon len).getD u 0 := by rw [getD_canon hu hm]; exact Nat.le_add_right _ _

/-- A used symbol's length, one to fifteen, as the successor that `getD_canon` reads. -/
theorem exists_getD_eq_succ {len : List Nat} (h : ∀ l ∈ len, l ≤ 15) {s : Nat} (hs : 0 < len.getD s 0) :
    ∃ l < 15, len.getD s 0 = l + 1 := by
  obtain ⟨l, hl⟩ := Nat.exists_eq_add_one.2 hs
  have hle := getD_le h s
  exact ⟨l, by omega, hl⟩

/-- Settles O21: codes of one length differ by the order of their symbols, and a longer code's first bits lie above every shorter
code. -/
theorem canonicalCodesArePrefixFree : Obligations.CanonicalCodesArePrefixFree := by
  refine fun len h hk => ⟨fun s hs => ?_, fun s u hne hs hle => ?_⟩
  · obtain ⟨l, hl, hsl⟩ := exists_getD_eq_succ h hs
    rw [hsl]
    exact (canon_lt_endCode hsl hl).trans_le (endCode_le h hk hl)
  · obtain ⟨l, hl, hsl⟩ := exists_getD_eq_succ h hs
    obtain ⟨m, hm, hum⟩ := exists_getD_eq_succ h (hs.trans_le hle)
    obtain rfl | hlm : l = m ∨ l + 1 ≤ m := by omega
    · rw [hsl, hum, Nat.sub_self, Nat.pow_zero, Nat.div_one]
      obtain hsu | hus := Nat.lt_or_gt_of_ne hne
      · exact (canon_lt_canon hsl hum hl hsu).ne'
      · exact (canon_lt_canon hum hsl hl hus).ne
    · rw [hsl, hum]
      exact ((canon_lt_endCode hsl hl).trans_le (endCode_le_canon_div hum hm hlm)).ne'

end Sys2Proof.Machine
end

section
/-! PROOFS. The checksums (42_checksums.md): their split invariance (R221, R234), the closed form of the Adler sums (R220), and
the four commands (R222, R223, R232, R233). -/

namespace Sys2Proof.Machine

/-! ## Split invariance (R221, R234) -/

theorem crcLoop_append (xs ys : Bytes) (x : Word) : crcLoop x (xs ++ ys) = crcLoop (crcLoop x xs) ys := by
  induction xs generalizing x with
  | nil => rfl
  | cons b xs ih => exact ih _

/-- The final complement of the first part is undone by the initial one of the second. -/
theorem crc_append (x : Word) (xs ys : Bytes) : crc x (xs ++ ys) = crc (crc x xs) ys := by
  simp only [crc, crcLoop_append, BitVec.xor_assoc, BitVec.xor_self, BitVec.xor_zero]

/-- Settles O14: both loops run over the second string from where they stand after the first. -/
theorem checksumsAreSplitInvariant : Obligations.ChecksumsAreSplitInvariant :=
  ⟨fun st b c => (adler_append st b c).symm, fun x b c => (crc_append x b c).symm⟩

/-! ## The Adler sums (R220) -/

/-- Each byte weighted by the number of steps it takes part in, its own included. -/
def weightedSum (bs : Bytes) : Nat :=
  ((List.range bs.length).map fun i => (bs.length - i) * (bs.getD i 0).toNat).sum

theorem weightedSum_cons (b : Byte) (bs : Bytes) :
    weightedSum (b :: bs) = (bs.length + 1) * b.toNat + weightedSum bs := by
  simp [weightedSum, List.range_succ_eq_map, Function.comp_def]

theorem adlerLoop_fst_modEq (bs : Bytes) (s1 s2 : Nat) :
    (adlerLoop s1 s2 bs).1 ≡ s1 + (bs.map BitVec.toNat).sum [MOD Config.adlerMod] := by
  induction bs generalizing s1 s2 with
  | nil => rfl
  | cons b bs ih =>
    calc (adlerLoop s1 s2 (b :: bs)).1
        ≡ (s1 + b.toNat) % Config.adlerMod + (bs.map BitVec.toNat).sum [MOD Config.adlerMod] := ih _ _
      _ ≡ s1 + b.toNat + (bs.map BitVec.toNat).sum [MOD Config.adlerMod] := (Nat.mod_modEq _ _).add_right _
      _ = s1 + ((b :: bs).map BitVec.toNat).sum := by rw [List.map_cons, List.sum_cons, Nat.add_assoc]

/-- The new first sum enters the second at this step and at every later one. -/
theorem adlerLoop_snd_modEq (bs : Bytes) (s1 s2 : Nat) :
    (adlerLoop s1 s2 bs).2 ≡ s2 + bs.length * s1 + weightedSum bs [MOD Config.adlerMod] := by
  induction bs generalizing s1 s2 with
  | nil => simp [adlerLoop, weightedSum, Nat.ModEq.refl]
  | cons b bs ih =>
    have ht : (s1 + b.toNat) % Config.adlerMod ≡ s1 + b.toNat [MOD Config.adlerMod] := Nat.mod_modEq _ _
    calc (adlerLoop s1 s2 (b :: bs)).2
        ≡ (s2 + (s1 + b.toNat) % Config.adlerMod) % Config.adlerMod + bs.length * ((s1 + b.toNat) % Config.adlerMod)
            + weightedSum bs [MOD Config.adlerMod] := ih _ _
      _ ≡ s2 + (s1 + b.toNat) + bs.length * (s1 + b.toNat) + weightedSum bs [MOD Config.adlerMod] :=
        (((Nat.mod_modEq _ _).trans (ht.add_left s2)).add (ht.mul_left _)).add_right _
      _ = s2 + (b :: bs).length * s1 + weightedSum (b :: bs) := by rw [weightedSum_cons, List.length_cons]; ring

/-- Every step leaves both sums reduced, whatever they were. -/
theorem adlerLoop_cons_lt (b : Byte) (bs : Bytes) (s1 s2 : Nat) :
    (adlerLoop s1 s2 (b :: bs)).1 < Config.adlerMod ∧ (adlerLoop s1 s2 (b :: bs)).2 < Config.adlerMod := by
  have hmod : ∀ x, x % Config.adlerMod < Config.adlerMod := fun x => Nat.mod_lt x (by decide)
  induction bs generalizing b s1 s2 with
  | nil => exact ⟨hmod _, hmod _⟩
  | cons c bs ih => exact ih c _ _

/-- Settles O15: the halves are the loop's sums, congruent to the plain sums and, after a byte, reduced. -/
theorem adlerSumsModulo65521 : Obligations.AdlerSumsModulo65521 := by
  refine ⟨adler_nil, fun st bs hne => ?_⟩
  obtain ⟨b, bs, rfl⟩ := List.exists_cons_of_ne_nil hne
  obtain ⟨h1, h2⟩ := adlerLoop_lt (b :: bs) (st.extractLsb' 0 16).isLt (st.extractLsb' 16 16).isLt
  obtain ⟨r1, r2⟩ := adlerLoop_cons_lt b bs (st.extractLsb' 0 16).toNat (st.extractLsb' 16 16).toNat
  exact ⟨(adlerWord_low h1).trans (Nat.mod_eq_of_modEq (adlerLoop_fst_modEq _ _ _).symm r1).symm,
    (adlerWord_high h2).trans (Nat.mod_eq_of_modEq (adlerLoop_snd_modEq _ _ _).symm r2).symm⟩

/-! ## The commands (R222, R223, R232, R233) -/

theorem decodeCmd_adlerInit {w : Word} (h : cmdOpc w = 0x10) : decodeCmd w = .ok .adlerInit := by
  simp only [decodeCmd, h]

theorem decodeCmd_adlerUpdate {w : Word} (h : cmdOpc w = 0x11) : decodeCmd w = .ok .adlerUpdate := by
  simp only [decodeCmd, h]

theorem decodeCmd_crcInit {w : Word} (h : cmdOpc w = 0x20) : decodeCmd w = .ok .crcInit := by
  simp only [decodeCmd, h]

theorem decodeCmd_crcUpdate {w : Word} (h : cmdOpc w = 0x21) : decodeCmd w = .ok .crcUpdate := by
  simp only [decodeCmd, h]

theorem exec_adlerInit (s : State) :
    exec .adlerInit s = .next (complete { s with adler := 1, res := { s.res with r0 := 1 } }) :=
  (finish_ok (f := fun s => .ok (setRes [(0, 1)] { s with adler := 1 })) rfl).trans rfl

theorem exec_crcInit (s : State) :
    exec .crcInit s = .next (complete { s with crc := 0, res := { s.res with r0 := 0 } }) :=
  (finish_ok (f := fun s => .ok (setRes [(0, 0)] { s with crc := 0 })) rfl).trans rfl

/-- A command on the next ARG0 bytes of IN (30_encoding.md R146). -/
def countedBody (opc : Nat) (g : Bytes → State → Res) (s : State) : Res :=
  guardErr (overInCap s (argNat s 0)) .badArg opc s (takeCounted opc (argNat s 0) s g)

/-- ADLER_UPDATE's pseudocode after its bytes are taken (R223). -/
def adlerFold (b : Bytes) (s : State) : Res := .ok (setRes [(0, adler s.adler b)] { s with adler := adler s.adler b })

/-- CRC_UPDATE's pseudocode after its bytes are taken (R233). -/
def crcFold (b : Bytes) (s : State) : Res := .ok (setRes [(0, crc s.crc b)] { s with crc := crc s.crc b })

theorem exec_adlerUpdate (s : State) : exec .adlerUpdate s = finish (countedBody 0x11 adlerFold) s := rfl

theorem exec_crcUpdate (s : State) : exec .crcUpdate s = finish (countedBody 0x21 crcFold) s := rfl

section Counted

variable {i : Instr} {opc : Nat} {g : Bytes → State → Res} {s : State} (he : exec i s = finish (countedBody opc g) s)

include he

theorem exec_counted_refusals : CountedRefusals i (toWord opc) s.lat.r0.toNat s := countedRefusals_finish he rfl

/-- With its bytes there, the command goes on from the state without them. -/
theorem exec_counted_enough (hc : overInCap s s.lat.r0.toNat = false) (hk : s.lat.r0.toNat ≤ s.inq.length) :
    exec i s = .next (settle (g (s.inq.take s.lat.r0.toNat) (begun { s with inq := s.inq.drop s.lat.r0.toNat }))) :=
  he.trans (finish_of (counted_enough (s := begun s) (k := s.lat.r0.toNat) rfl hc hk))

end Counted

/-- Settles O13: each INIT completes at once, and each UPDATE is refused, holds, or folds the bytes it takes. -/
theorem checksumInitAndUpdate : Obligations.ChecksumInitAndUpdate := by
  refine ⟨fun _ => decodeCmd_adlerInit, exec_adlerInit, fun _ => decodeCmd_crcInit, exec_crcInit,
    fun _ => decodeCmd_adlerUpdate, fun s => ?_, fun _ => decodeCmd_crcUpdate, fun s => ?_⟩
  · obtain ⟨badArg, short, hold⟩ := exec_counted_refusals (exec_adlerUpdate s)
    exact ⟨badArg, exec_counted_enough (exec_adlerUpdate s), short, hold⟩
  · obtain ⟨badArg, short, hold⟩ := exec_counted_refusals (exec_crcUpdate s)
    exact ⟨badArg, exec_counted_enough (exec_crcUpdate s), short, hold⟩

end Sys2Proof.Machine
end

section
/-! PROOFS. The degenerate trees: HUFF_LENGTHS with at most one used symbol (43_huffman_encoder.md R257). -/

namespace Sys2Proof.Machine

theorem usedFrom_eq_nil {freq : List Nat} (h0 : ∀ s, freq.getD s 0 = 0) : usedFrom 0 freq = [] := by
  refine (List.map_eq_nil_iff (f := Prod.fst)).1 (List.eq_nil_iff_forall_not_mem.2 fun s hs => ?_)
  have hpos : 0 < freq.getD s 0 := ((mem_usedFrom 0 s freq).1 hs).2
  have hzero := h0 s
  omega

/-- With one used symbol u, U lists u alone. -/
theorem usedFrom_fst_eq_singleton {freq : List Nat} {u : Nat} (hu : 0 < freq.getD u 0)
    (h0 : ∀ s, s ≠ u → freq.getD s 0 = 0) : (usedFrom 0 freq).map Prod.fst = [u] := by
  have hused (s : Nat) : 0 < freq.getD s 0 ↔ s = u :=
    ⟨fun hs => by_contra fun hne => hs.ne' (h0 s hne), fun he => he ▸ hu⟩
  refine List.perm_singleton.1 ((List.perm_ext_iff_of_nodup (usedFrom_nodup 0 freq) (List.nodup_singleton u)).2 fun s => ?_)
  rw [mem_usedFrom, List.mem_singleton, ← hused s]
  exact and_iff_right (Nat.zero_le s)

/-- Length 1 spread to two symbols, by symbol. -/
theorem spread_ones (n a b : Nat) :
    spread n [(a, 1), (b, 1)] = (List.range n).map (fun s => if s = a ∨ s = b then 1 else 0) := by
  have hspread : spread n [(a, 1), (b, 1)] = setAt (setAt (List.replicate n 0) a 1) b 1 := rfl
  refine ext_getD (by simp [hspread]) fun j hj => ?_
  have hjn : j < n := by simpa [hspread] using hj
  have hmap : ((List.range n).map (fun s => if s = a ∨ s = b then 1 else 0)).getD j 0 = if j = a ∨ j = b then 1 else 0 := by
    simp [hjn]
  have hzero : (List.replicate n 0).getD j 0 = 0 := by simp [hjn]
  rw [hspread, getD_setAt, getD_setAt, setAt_length, List.length_replicate, hzero, hmap]
  by_cases hb : b = j
  · rw [if_pos ⟨hb, hb ▸ hjn⟩, if_pos (.inr hb.symm)]
  · rw [if_neg fun h => hb h.1]
    exact if_congr ⟨fun h => .inl h.1.symm, fun h => h.elim (fun ha => ⟨ha.symm, ha ▸ hjn⟩) fun hj => absurd hj.symm hb⟩ rfl rfl

/-- At most one used symbol: the reference is Degenerate(FREQ). -/
theorem huffLengths_degenerate {freq : List Nat} (m : Nat) (h : (usedFrom 0 freq).length ≤ 1) :
    huffLengths freq m = some (degenerate freq.length (usedFrom 0 freq)) := if_pos h

theorem huffLengths_of_none_used {freq : List Nat} (m : Nat) (h0 : ∀ s, freq.getD s 0 = 0) :
    huffLengths freq m = some (spread freq.length [(0, 1), (1, 1)]) := by
  have hU := usedFrom_eq_nil h0
  rw [huffLengths_degenerate m (by simp [hU]), hU, degenerate]

theorem huffLengths_of_one_used {freq : List Nat} (m : Nat) {u : Nat} (hu : 0 < freq.getD u 0)
    (h0 : ∀ s, s ≠ u → freq.getD s 0 = 0) :
    huffLengths freq m = some (spread freq.length [(u, 1), (if u = 0 then 1 else 0, 1)]) := by
  obtain ⟨⟨_, f⟩, hU, rfl⟩ := List.map_eq_singleton_iff.1 (usedFrom_fst_eq_singleton hu h0)
  rw [huffLengths_degenerate m (by simp [hU]), hU, degenerate]

/-- Settles O20: U is empty or lists the one used symbol, so Degenerate(FREQ) spreads length 1 to its two symbols. -/
theorem degenerateTreesHaveTwoSymbols : Obligations.DegenerateTreesHaveTwoSymbols := by
  unfold Obligations.DegenerateTreesHaveTwoSymbols
  refine fun freq m _ => ⟨fun h0 => ?_, fun u hu h0 => ?_⟩
  · have hlow (s : Nat) : s < 2 ↔ s = 0 ∨ s = 1 := by omega
    simp only [huffLengths_of_none_used m h0, spread_ones, hlow]
  · rw [huffLengths_of_one_used m hu h0, spread_ones]

end Sys2Proof.Machine
end

section
/-! PROOFS. Decode inverts the encoder's codes (44_huffman_decoder.md R295, 43_huffman_encoder.md R262). The first l bits of a
reversed code of L bits, reversed again, are the first l bits of the code. No used symbol's code begins another's (R215), so the
loop of Decode passes every length below L and finds the one symbol at L. -/

namespace Sys2Proof.Machine

/-! ## Bit reversal (R210) -/

theorem bitrev_lt (n c : Nat) : bitrev n c < 2 ^ n := by
  induction n generalizing c with
  | zero => exact Nat.one_pos
  | succ n ih =>
    have hlow := ih (c / 2)
    obtain hc | hc := Nat.mod_two_eq_zero_or_one c <;> rw [bitrev, hc, Nat.pow_succ] <;> omega

/-- R210 as it is stated, bit by bit. -/
theorem testBit_bitrev (n c i : Nat) : (bitrev n c).testBit i = (decide (i < n) && c.testBit (n - 1 - i)) := by
  induction n generalizing c i with
  | zero => simp [bitrev]
  | succ n ih =>
    rw [bitrev, Nat.mul_comm, Nat.testBit_two_pow_mul_add _ (bitrev_lt n _), ih]
    obtain hi | rfl | hi := Nat.lt_trichotomy i n
    · have hsub : n - i = n - 1 - i + 1 := by omega
      simp [hi, Nat.lt_succ_of_lt hi, hsub, Nat.testBit_add_one]
    · simp [Nat.testBit_zero]
    · have hbit : (c % 2).testBit (i - n) = false :=
        Nat.testBit_lt_two_pow ((Nat.mod_lt c Nat.two_pos).trans_le (Nat.le_self_pow (by omega) 2))
      simp [hbit, Nat.not_lt.2 hi, Nat.not_lt.2 hi.le]

@[simp] theorem bitrev_zero_right (n : Nat) : bitrev n 0 = 0 := by
  induction n with
  | zero => rfl
  | succ n ih => simp [bitrev, ih]

/-- The first l bits of a reversed code, reversed again, are the code's first l bits. -/
theorem bitrev_bitrev_mod {l n c : Nat} (hl : l ≤ n) (hc : c < 2 ^ n) : bitrev l (bitrev n c % 2 ^ l) = c / 2 ^ (n - l) := by
  refine Nat.eq_of_testBit_eq fun i => ?_
  rw [testBit_bitrev, Nat.testBit_mod_two_pow, testBit_bitrev, Nat.testBit_div_two_pow]
  by_cases hi : i < l
  · have hsub : n - 1 - (l - 1 - i) = i + (n - l) := by omega
    simp [hi, hsub, show l - 1 - i < l by omega, show l - 1 - i < n by omega]
  · have hhigh : c.testBit (i + (n - l)) = false :=
      Nat.testBit_lt_two_pow (hc.trans_le (Nat.pow_le_pow_right Nat.two_pos (by omega)))
    simp [hi, hhigh]

theorem getD_revAll (ls cs : List Nat) (s : Nat) : (revAll ls cs).getD s 0 = bitrev (ls.getD s 0) (cs.getD s 0) := by
  induction ls generalizing cs s with
  | nil => simp [revAll, bitrev]
  | cons l ls ih =>
    match cs, s with
    | [], _ => simp [revAll]
    | c :: cs, 0 => rfl
    | c :: cs, s + 1 => exact ih cs s

/-! ## The symbol of a code (R295) -/

theorem length_assignCodes (next ls : List Nat) : (assignCodes next ls).length = ls.length := by
  induction ls generalizing next with
  | nil => rfl
  | cons l ls ih => cases l <;> simp [assignCodes, ih]

theorem length_canon (len : List Nat) : (canon len).length = len.length := length_assignCodes _ len

/-- A symbol that is found has the length and the code looked for. -/
theorem findSym_sound {l c i j : Nat} {ks ds : List Nat} (h : findSym l c i ks ds = some j) :
    ∃ u, j = i + u ∧ ks.getD u 0 = l ∧ ds.getD u 0 = c := by
  induction ks generalizing i ds with
  | nil => simp [findSym] at h
  | cons k ks ih =>
    cases ds with
    | nil => simp [findSym] at h
    | cons d ds =>
      rw [findSym] at h
      split at h
      next hkd => exact ⟨0, (Option.some.inj h).symm, hkd⟩
      next =>
        obtain ⟨u, hj, hu⟩ := ih h
        exact ⟨u + 1, by omega, hu⟩

/-- Where a symbol has the length and the code looked for, one is found. -/
theorem findSym_complete {l c s : Nat} (i : Nat) {ks ds : List Nat} (hk : s < ks.length) (hd : s < ds.length)
    (hl : ks.getD s 0 = l) (hc : ds.getD s 0 = c) : ∃ j, findSym l c i ks ds = some j := by
  induction ks generalizing i s ds with
  | nil => simp at hk
  | cons k ks ih =>
    cases ds with
    | nil => simp at hd
    | cons d ds =>
      rw [findSym]
      split
      next => exact ⟨i, rfl⟩
      next hkd =>
        cases s with
        | zero => exact absurd ⟨hl, hc⟩ hkd
        | succ s => exact ih (i + 1) (Nat.lt_of_succ_lt_succ hk) (Nat.lt_of_succ_lt_succ hd) hl hc

section Codes

variable {len : List Nat} (h : ∀ l ∈ len, l ≤ 15) (hk : kraft len ≤ 32768) {s : Nat}

include h hk

/-- The one symbol whose code begins the code of s is s. -/
theorem eq_of_canon_eq_div {u l : Nat} (hl : 0 < l) (hle : l ≤ len.getD s 0) (hlen : len.getD u 0 = l)
    (hcode : (canon len).getD u 0 = (canon len).getD s 0 / 2 ^ (len.getD s 0 - l)) : u = s := by
  subst hlen
  by_contra hne
  exact (canonicalCodesArePrefixFree len h hk).2 u s hne hl hle hcode.symm

/-- No code ends before that of s does. -/
theorem findSym_shorter {l : Nat} (hl : 0 < l) (hlt : l < len.getD s 0) :
    findSym l ((canon len).getD s 0 / 2 ^ (len.getD s 0 - l)) 0 len (canon len) = none := by
  refine Option.eq_none_iff_forall_ne_some.2 fun u hu => ?_
  obtain ⟨v, -, hlen, hcode⟩ := findSym_sound hu
  obtain rfl := eq_of_canon_eq_div h hk hl hlt.le hlen hcode
  exact hlt.ne' hlen

theorem findSym_canon (hs : 0 < len.getD s 0) :
    findSym (len.getD s 0) ((canon len).getD s 0) 0 len (canon len) = some s := by
  obtain ⟨m, -, hm⟩ := exists_getD_eq_succ h hs
  have hlt := lt_length_of_getD hm
  obtain ⟨u, hu⟩ := findSym_complete (ds := canon len) 0 hlt (by rwa [length_canon]) rfl rfl
  obtain ⟨v, rfl, hlen, hcode⟩ := findSym_sound hu
  rw [hu, Nat.zero_add, eq_of_canon_eq_div h hk hs (Nat.le_refl _) hlen (by rw [hcode, Nat.sub_self, Nat.pow_zero, Nat.div_one])]

end Codes

/-! ## The loop of Decode (R295) -/

/-- A refill pops nothing where the bits are held. -/
theorem refill_held {l : Nat} {b : BitSrc} (h : l ≤ b.n) : b.refill l = b := by
  obtain ⟨acc, n, bytes, pops⟩ := b
  cases bytes with
  | nil => rfl
  | cons x xs => simp [BitSrc.refill, refillLoop, Nat.not_lt.2 h]

section Held

variable {len code : List Nat} {l : Nat} {b : BitSrc} (h : l ≤ b.n)

include h

theorem decodeLoop_some {s : Nat} (hs : findSym l (bitrev l (b.low l)) 0 len code = some s) (ls : List Nat) :
    decodeLoop len code (l :: ls) b = (.sym s, b.drop l) := by
  simp only [decodeLoop, refill_held h, if_neg (Nat.not_lt.2 h), hs]

theorem decodeLoop_none (hnone : findSym l (bitrev l (b.low l)) 0 len code = none) (ls : List Nat) :
    decodeLoop len code (l :: ls) b = decodeLoop len code ls b := by
  simp only [decodeLoop, refill_held h, if_neg (Nat.not_lt.2 h), hnone]

end Held

/-- The loop passes the held lengths at which no code ends. -/
theorem decodeLoop_skip {len code pre : List Nat} (ls : List Nat) {b : BitSrc}
    (h : ∀ l ∈ pre, l ≤ b.n ∧ findSym l (bitrev l (b.low l)) 0 len code = none) :
    decodeLoop len code (pre ++ ls) b = decodeLoop len code ls b := by
  induction pre with
  | nil => rfl
  | cons l pre ih =>
    obtain ⟨⟨hn, hnone⟩, hpre⟩ := List.forall_mem_cons.1 h
    rw [List.cons_append, decodeLoop_none hn hnone, ih hpre]

/-- The lengths that Decode tries, cut at one of them. -/
theorem lengths_split : ∀ l < 16, 0 < l → [1, 2, 3, 4, 5, 6, 7, 8, 9, 10, 11, 12, 13, 14, 15] =
    List.range' 1 (l - 1) ++ l :: List.range' (l + 1) (15 - l) := by decide

/-- Settles O24: at every length up to that of s the bits held are the first bits of its code. -/
theorem decodeInvertsTheEncodersCodes : Obligations.DecodeInvertsTheEncodersCodes := by
  intro len b s h hk hs hn hbits
  have hfit := (canonicalCodesArePrefixFree len h hk).1 s hs
  have hread {l : Nat} (hl : l ≤ len.getD s 0) : bitrev l (b.low l) = (canon len).getD s 0 / 2 ^ (len.getD s 0 - l) := by
    rw [BitSrc.low, ← Nat.mod_mod_of_dvd b.acc.toNat (Nat.pow_dvd_pow 2 hl), hbits, revCodes, getD_revAll,
      bitrev_bitrev_mod hl hfit]
  have hfound : findSym (len.getD s 0) (bitrev (len.getD s 0) (b.low (len.getD s 0))) 0 len (canon len) = some s := by
    rw [hread (Nat.le_refl _), Nat.sub_self, Nat.pow_zero, Nat.div_one, findSym_canon h hk hs]
  have hpassed : ∀ l ∈ List.range' 1 (len.getD s 0 - 1),
      l ≤ b.n ∧ findSym l (bitrev l (b.low l)) 0 len (canon len) = none := by
    intro l hl
    obtain ⟨hpos, hlt⟩ : 0 < l ∧ l < len.getD s 0 := by
      rw [List.mem_range'_1] at hl
      omega
    exact ⟨by omega, by rw [hread hlt.le, findSym_shorter h hk hpos hlt]⟩
  rw [decodeSym, lengths_split _ (Nat.lt_succ_of_le (getD_le h s)) hs, decodeLoop_skip _ hpassed]
  exact decodeLoop_some hn hfound _

end Sys2Proof.Machine
end

section
/-! PROOFS. ReadBits and Sym inside a command, from IN (45_bitstream.md R345, 44_huffman_decoder.md R295, 47_deflate_decompressor.md
R465, R466). -/

namespace Sys2Proof.Machine

/-- The state with all of IN popped into the reader and counted. -/
def drained (s : State) : State :=
  { popped s.inq.length s with infl := { s.infl with consumed := s.infl.consumed + BitVec.ofNat 32 s.inq.length } }

section Input

variable {s : State} (hsrc : s.infl.src = .input)

include hsrc

/-- From IN more bytes may come until it has ended. -/
theorem inflMore_input : inflMore s = !s.inEnd := by simp only [inflMore, hsrc]

/-- A refill from IN that does not find its n bits pops all of IN. -/
theorem refill_input_short {n : Nat} (hok : s.readerOk) (hn : n ≤ 24) (hless : bitsHeld s < n) :
    (inflSrc s).refill n = ⟨(popped s.inq.length s).br.acc, bitsHeld s, [], s.inq.length⟩ := by
  obtain ⟨k, hk, href⟩ := refillLoop_eq hn s.inq hok.2 0
  simp only [bitsHeld] at hless
  obtain rfl : k = s.inq.length := by omega
  rw [inflSrc_input hsrc]
  exact href.trans (by rw [Nat.zero_add, List.drop_length]; rfl)

theorem inflPut_refill_short {n : Nat} (hok : s.readerOk) (hn : n ≤ 24) (hless : bitsHeld s < n) :
    inflPut s ((inflSrc s).refill n) = drained s := by
  rw [refill_input_short hsrc hok hn hless, inflPut_input hsrc]
  simp only [drained, popped, bitsHeld, toWord, List.drop_length]

/-- A read of more bits than there are leaves all of IN popped, and waits or raises TRUNCATED (R466). -/
theorem readBits_short {n : Nat} (hok : s.readerOk) (hn : n ≤ 24) (hless : bitsHeld s < n) :
    readBits n s = .stop (if s.inEnd = false then .hold (.inBytes 1) (drained s) else
      failInfl .truncated (drained s)) := by
  have hlt : ((inflSrc s).refill n).n < n := by rwa [refill_input_short hsrc hok hn hless]
  rw [readBits, if_pos hlt, inflMore_input hsrc, inflPut_refill_short hsrc hok hn hless]
  cases s.inEnd <;> rfl

end Input

/-- Settles O39: each outcome of the refill, and of Decode, as the state takes it back. -/
theorem readBitsTakesTheNextBits : Obligations.ReadBitsTakesTheNextBits := by
  refine ⟨fun s n hsrc hok hn => ⟨fun hheld => ?_, fun hless hopen => ?_, fun hless hended => ?_⟩,
    fun s d k b hsrc hdec => ?_⟩
  · exact readBits_input hsrc hok (by omega) hheld
  · rw [readBits_short hsrc hok (by omega) hless, if_pos hopen]
    rfl
  · rw [readBits_short hsrc hok (by omega) hless, if_neg (by simp [hended]),
      failInfl_input .truncated (drained s) hsrc (by decide)]
    rfl
  · intro s1 bad
    have hput : inflPut s b = s1 := inflPut_input hsrc b
    have hfail {e : Err} (he : e.cls ≠ 5) : failInfl e s1 = .raise e s1.infl.consumed bad := failInfl_input e s1 hsrc he
    rw [readSym, inflSrc_input hsrc, hdec, inflMore_input hsrc]
    refine ⟨?_, ?_, ?_, ?_, ?_⟩
    · rintro y rfl
      exact congrArg _ hput
    · rintro rfl
      simp only [hput, hfail (e := .huffInvalidCode) (by decide)]
    · rintro rfl hopen
      simp [hput, hopen]
    · rintro rfl hended hpre
      simp [hput, hended, hpre, hfail (e := .truncated) (by decide)]
    · rintro rfl hended hpre
      simp [hput, hended, hpre, hfail (e := .huffInvalidCode) (by decide)]

end Sys2Proof.Machine
end

section
/-! PROOFS. The bit reader's commands (45_bitstream.md R340-R352) and BW_WRITE_BITS (R321). -/

namespace Sys2Proof.Machine

/-! ## BW_WRITE_BITS (R321) -/

theorem exec_bwWriteBits {s : State} (ha : s.defl.phase.active = false) (n : BitVec 8) (v : BitVec 16) :
    exec (.bwWriteBits n v) s = launch (fun s =>
      guardErr (decide (16 < n.toNat) || decide (2 ^ n.toNat ≤ v.toNat)) .badArg 0x50 s
        (.ok (writeOps .host [.bits v.toNat n.toNat] s))) s := by
  show execBwWriteBits n v s = _
  simp only [execBwWriteBits, launch, deflFree_ok (s := begun s) ha]

/-- Settles O25: the one guard, then one write of the operand's bits. -/
theorem writeBitsAppendsTheBits : Obligations.WriteBitsAppendsTheBits := by
  refine fun s n v ha => ⟨fun hn hv hw => ⟨_, ?_, bitsWritten_run hw hv hn⟩, fun hbad => ?_⟩ <;> rw [exec_bwWriteBits ha]
  · refine launch_ok ?_
    rw [decide_eq_false (Nat.not_lt.2 hn), decide_eq_false (Nat.not_le.2 hv), Bool.or_self, guardErr_false]
  · refine launch_refuse (opc := 0x50) ?_
    rw [← Bool.decide_or, decide_eq_true hbad, guardErr_true]

/-! ## A command of the reader (R615) -/

theorem inflFree_ok {opc : Nat} {s : State} (ha : s.infl.phase.active = false) (r : Res) : inflFree opc s r = r := by
  rw [inflFree, ha, guardErr_false]

theorem finish_inflFree {opc : Nat} {s : State} (ha : s.infl.phase.active = false) {r : State → Res} :
    finish (fun s => inflFree opc s (r s)) s = .next (settle (r (begun s))) := by
  rw [finish, inflFree_ok (s := begun s) ha]

/-- Settles O30: each command completes at once, without a refill. -/
theorem readerAlignResetAndAvail : Obligations.ReaderAlignResetAndAvail := by
  refine fun s ha => ⟨?_, ?_, ?_⟩
  · show execBrAlign s = _
    rw [execBrAlign, finish_inflFree ha]
    rfl
  · show execBrReset s = _
    rw [execBrReset, finish_inflFree ha]
    rfl
  · have hend : toWord s.inEnd.toNat = if s.inEnd = true then 1 else 0 := by cases s.inEnd <;> rfl
    show execBrAvail s = _
    rw [execBrAvail, finish_inflFree ha, ← hend]
    rfl

/-! ## The refill and the bits it leaves (R340) -/

theorem popped_zero (s : State) : popped 0 s = s := by simp [popped, leValue]

/-- The accumulator after k pops holds the first of the bits ahead. -/
theorem popped_acc {s : State} (hok : s.readerOk) {k : Nat} (hk : k ≤ s.inq.length) :
    (popped k s).br.acc = BitVec.ofNat 32 (bitsAhead s % 2 ^ (s.br.n + 8 * k)) := by
  rw [bitsAhead_mod hok hk]
  rfl

section Refill

variable {s : State} (hok : s.readerOk) {m : Nat} (hm : m ≤ 24)

include hok hm

/-- RefillNow pops the least bytes of IN that hold m bits. -/
theorem refillNow_eq : refillNow m s = popped (popsFor m s) s := by
  obtain ⟨k, hk, href⟩ := refillLoop_eq hm s.inq hok.2 0
  have hrefill : (brSrc s).refill m = _ := href
  rw [refillNow, hrefill, hk]
  rfl

variable (hheld : m ≤ bitsHeld s)

include hheld

/-- With enough bits ahead the refill holds m of them, and the accumulator is not overrun. -/
theorem popsFor_reaches : m ≤ s.br.n + 8 * popsFor m s ∧ s.br.n + 8 * popsFor m s < 32 := by
  have hn := hok.1
  simp only [bitsHeld] at hheld
  simp only [popsFor]
  omega

/-- The low m bits of the reader are the next m of those ahead. -/
theorem brLow_popped : brLow m (popped (popsFor m s) s) = bitsAhead s % 2 ^ m := by
  obtain ⟨hreach, hlt⟩ := popsFor_reaches hok hm hheld
  show (popped (popsFor m s) s).br.acc.toNat % 2 ^ m = _
  rw [popped_acc hok (k := popsFor m s) (Nat.min_le_right _ _), ofNat_low hreach hlt]

end Refill

/-- A refill that does not find its m bits pops all of IN. -/
theorem popsFor_short {m : Nat} {s : State} (h : bitsHeld s < m) : popsFor m s = s.inq.length := by
  simp only [bitsHeld] at h
  simp only [popsFor]
  omega

/-! ## BR_PEEK and BR_SKIP (R341, R342) -/

/-- BR_PEEK on the reader as its refill left it (R341). -/
def peekRes (m : Nat) (s : State) : Res :=
  if m ≤ s.br.n then .ok (setRes [(0, toWord (brLow m s)), (1, 0)] s) else .ok (setRes [(0, 0), (1, 1)] s)

/-- BR_SKIP on the reader as its refill left it (R342). -/
def skipRes (m : Nat) (s : State) : Res := guardErr (decide (s.br.n < m)) .shortInput 0x61 s (.ok (skipped m s))

section Outcomes

variable {m : Nat} {s : State}

theorem peekRes_enough (h : m ≤ s.br.n) : peekRes m s = .ok (setRes [(0, toWord (brLow m s)), (1, 0)] s) := if_pos h

theorem peekRes_short (h : s.br.n < m) : peekRes m s = .ok (setRes [(0, 0), (1, 1)] s) := if_neg (Nat.not_le.2 h)

theorem skipRes_enough (h : m ≤ s.br.n) : skipRes m s = .ok (skipped m s) := if_neg (by simpa using h)

theorem skipRes_short (h : s.br.n < m) : skipRes m s = refuse .shortInput 0x61 s := if_pos (decide_eq_true h)

end Outcomes

section PeekSkip

variable {s : State} (ha : s.infl.phase.active = false) {n : BitVec 8}

include ha

theorem exec_brPeek : exec (.brPeek n) s = .next (settle (guardErr (decide (16 < n.toNat)) .badArg 0x60 (begun s)
    (peekRes n.toNat (refillNow n.toNat (begun s))))) := by
  show execBrPeek n s = _
  rw [execBrPeek, finish_inflFree ha]
  rfl

theorem exec_brSkip : exec (.brSkip n) s = .next (settle (guardErr (decide (16 < n.toNat)) .badArg 0x61 (begun s)
    (skipRes n.toNat (refillNow n.toNat (begun s))))) := by
  show execBrSkip n s = _
  rw [execBrSkip, finish_inflFree ha]
  rfl

variable (hn : n.toNat ≤ 16) (hok : s.readerOk)

include hn hok

theorem exec_brPeek_popped : exec (.brPeek n) s =
    .next (settle (peekRes n.toNat (popped (popsFor n.toNat s) (begun s)))) := by
  rw [exec_brPeek ha, decide_eq_false (Nat.not_lt.2 hn), guardErr_false, refillNow_eq (s := begun s) hok (by omega)]
  rfl

theorem exec_brSkip_popped : exec (.brSkip n) s =
    .next (settle (skipRes n.toNat (popped (popsFor n.toNat s) (begun s)))) := by
  rw [exec_brSkip ha, decide_eq_false (Nat.not_lt.2 hn), guardErr_false, refillNow_eq (s := begun s) hok (by omega)]
  rfl

end PeekSkip

/-- Settles O28: the count's check, then the refill, which holds the n bits or has popped all of IN. -/
theorem peekAndSkipTakeTheNextBits : Obligations.PeekAndSkipTakeTheNextBits := by
  refine fun s n ha => ⟨fun hn hok hheld => ?_, fun hn hok hless => ?_, fun hn => ⟨?_, ?_⟩⟩
  · have hn24 : n.toNat ≤ 24 := by omega
    obtain ⟨hreach, -⟩ := popsFor_reaches hok hn24 hheld
    have hlow : brLow n.toNat (popped (popsFor n.toNat s) (begun s)) = bitsAhead s % 2 ^ n.toNat :=
      brLow_popped hok hn24 hheld
    constructor
    · rw [exec_brPeek_popped ha hn hok, peekRes_enough (s := popped _ (begun s)) hreach, hlow]
      rfl
    · rw [exec_brSkip_popped ha hn hok, skipRes_enough (s := popped _ (begun s)) hreach]
      rfl
  · constructor
    · rw [exec_brPeek_popped ha hn hok, popsFor_short hless, peekRes_short (s := popped _ (begun s)) hless]
      rfl
    · rw [exec_brSkip_popped ha hn hok, popsFor_short hless, skipRes_short (s := popped _ (begun s)) hless]
      rfl
  · rw [exec_brPeek ha, decide_eq_true hn]
    rfl
  · rw [exec_brSkip ha, decide_eq_true hn]
    rfl

/-! ## Bits taken off the reader (R343, R346) -/

/-- The state with the next m bits taken off the reader: `readOff` of a command that is not the decompressor's. -/
def taken (m : Nat) (s : State) : State := { readOff m s with infl := s.infl }

theorem skipped_popped {s : State} (hok : s.readerOk) {m : Nat} (hm : m ≤ 24) (hheld : m ≤ bitsHeld s) :
    skipped m (popped (popsFor m s) s) = taken m s := by
  obtain ⟨hreach, hlt⟩ := popsFor_reaches hok hm hheld
  have hk : popsFor m s = (m - s.br.n + 7) / 8 := Nat.min_eq_left (readOff_count hok hheld).1
  rw [skipped, popped_acc hok (k := popsFor m s) (Nat.min_le_right _ _), ofNat_high hreach hlt, taken, readOff_eq hk rfl]
  rfl

theorem taken_taken {s : State} (hok : s.readerOk) {m : Nat} (hm : m ≤ bitsHeld s) (n : Nat) :
    taken n (taken m s) = taken (m + n) s :=
  congrArg (fun t => { t with infl := s.infl }) (readOff_readOff hok hm n)

/-- Where no bit of the popped bytes is left over the reader is empty. -/
theorem taken_br_empty {m : Nat} {s : State} (h : s.br.n + 8 * ((m - s.br.n + 7) / 8) - m = 0) : (taken m s).br = ⟨0, 0⟩ := by
  have hbr : (taken m s).br = ⟨BitVec.ofNat 32 (bitsAhead s / 2 ^ m % 2 ^ 0), 0⟩ := by rw [← h]; rfl
  rw [hbr, Nat.pow_zero, Nat.mod_one]
  rfl

section Aligned

variable {s : State} (hok : s.readerOk) (h8 : s.br.n % 8 = 0)

include hok h8

theorem taken16_br (hheld : 16 ≤ bitsHeld s) : (taken 16 s).br = ⟨s.br.acc >>> 16, s.br.n - 16⟩ := by
  by_cases h16 : 16 ≤ s.br.n
  case pos =>
    have hpops : popsFor 16 s = 0 := by simp only [popsFor]; omega
    rw [← skipped_popped hok (by decide) hheld, hpops, popped_zero]
    rfl
  case neg =>
    have hacc : s.br.acc >>> 16 = 0 := by
      apply BitVec.eq_of_toNat_eq
      rw [BitVec.toNat_ushiftRight, Nat.shiftRight_eq_div_pow]
      exact Nat.div_eq_of_lt (hok.2.trans (Nat.pow_lt_pow_right (by decide) (by omega)))
    rw [taken_br_empty (by omega), hacc, Nat.sub_eq_zero_of_le (by omega)]

theorem taken16_eq (hheld : 16 ≤ bitsHeld s) : taken 16 s =
    { s with br := ⟨s.br.acc >>> 16, s.br.n - 16⟩, inq := s.inq.drop ((16 - s.br.n) / 8) } := by
  have hk : (16 - s.br.n + 7) / 8 = (16 - s.br.n) / 8 := by omega
  rw [← taken16_br hok h8 hheld, ← hk]
  rfl

theorem taken32_eq : taken 32 s = { s with br := ⟨0, 0⟩, inq := s.inq.drop ((32 - s.br.n) / 8) } := by
  have hn := hok.1
  have hk : (32 - s.br.n + 7) / 8 = (32 - s.br.n) / 8 := by omega
  rw [← taken_br_empty (m := 32) (s := s) (by omega), ← hk]
  rfl

end Aligned

/-! ## BR_READ16 and BR_READ32 (R343, R344, R346, R347) -/

theorem swap16_low (v : Nat) : swap16 (v % 65536) = v % 256 * 256 + v / 256 % 256 := by
  unfold swap16
  omega

theorem halves_le (v : Nat) : v / 65536 % 65536 * 65536 + v % 65536 = v % 2 ^ 32 := by omega

theorem halves_be (v : Nat) : swap16 (v % 65536) * 65536 + swap16 (v / 65536 % 65536) =
    v % 256 * 16777216 + v / 256 % 256 * 65536 + v / 65536 % 256 * 256 + v / 16777216 % 256 := by
  rw [swap16_low, swap16_low]
  omega

section Reads

variable {s : State} {opc : Nat}

theorem brRead16_enough (hok : s.readerOk) (hheld : 16 ≤ bitsHeld s) {f : Nat → State → Res} :
    brRead16 opc s f = f (bitsAhead s % 65536) (taken 16 s) := by
  obtain ⟨hreach, -⟩ := popsFor_reaches hok (by decide) hheld
  have hguard : decide ((popped (popsFor 16 s) s).br.n < 16) = false := decide_eq_false (Nat.not_lt.2 hreach)
  rw [← skipped_popped hok (by decide) hheld, brRead16, refillNow_eq hok (by decide), brLow_popped hok (by decide) hheld]
  simp only [hguard, guardErr_false]
  rfl

theorem brRead16_short (hok : s.readerOk) (hless : bitsHeld s < 16) {f : Nat → State → Res} :
    brRead16 opc s f = refuse .shortInput opc (popped s.inq.length s) := by
  have hguard : decide ((popped s.inq.length s).br.n < 16) = true := decide_eq_true hless
  rw [brRead16, refillNow_eq hok (by decide), popsFor_short hless]
  simp only [hguard, guardErr_true]

/-- The two halves are read one after the other. -/
theorem brRead32_enough (hok : s.readerOk) (hheld : 32 ≤ bitsHeld s) {f : Nat → Nat → State → Res} :
    brRead32 opc s f = f (bitsAhead s % 65536) (bitsAhead s / 65536 % 65536) (taken 32 s) := by
  have h16 : 16 ≤ bitsHeld s := by omega
  have hok' : (taken 16 s).readerOk := readOff_readerOk hok h16
  have hheld' : bitsHeld (taken 16 s) = bitsHeld s - 16 := readOff_bitsHeld hok h16
  have hahead : bitsAhead (taken 16 s) = bitsAhead s / 65536 := readOff_bitsAhead hok h16
  have hguard : decide (s.br.n + 8 * s.inq.length < 32) = false := decide_eq_false (Nat.not_lt.2 hheld)
  rw [brRead32, hguard, guardErr_false, brRead16_enough hok h16, brRead16_enough hok' (by omega), hahead, taken_taken hok h16]

theorem brRead32_short (hless : bitsHeld s < 32) {f : Nat → Nat → State → Res} :
    brRead32 opc s f = refuse .shortInput opc s := if_pos (decide_eq_true hless)

variable (ha : s.infl.phase.active = false) {r : State → Res}

include ha

theorem finish_aligned (h8 : s.br.n % 8 = 0) :
    finish (fun s => inflFree opc s <| brAligned opc s <| r s) s = .next (settle (r (begun s))) := by
  have hguard : ((begun s).br.n % 8 != 0) = false := bne_eq_false_iff_eq.2 h8
  rw [finish_inflFree ha, brAligned, hguard, guardErr_false]

theorem finish_unaligned (h8 : s.br.n % 8 ≠ 0) :
    finish (fun s => inflFree opc s <| brAligned opc s <| r s) s = .next (raiseErr .rawReadUnaligned (toWord opc) s) := by
  have hguard : ((begun s).br.n % 8 != 0) = true := bne_iff_ne.2 h8
  rw [finish_inflFree ha, brAligned, hguard]
  rfl

variable (hok : s.readerOk) (h8 : s.br.n % 8 = 0)

include hok h8

/-- A read of 16 bits that are there, g being the byte order: w is their value. -/
theorem finish_read16 (hheld : 16 ≤ bitsHeld s) {g : Nat → Nat} {w : Nat} (hw : g (bitsAhead s % 65536) = w) :
    finish (fun s => inflFree opc s <| brAligned opc s <| brRead16 opc s fun v s => .ok (setRes [(0, toWord (g v))] s)) s =
      .next (complete { s with
        br := ⟨s.br.acc >>> 16, s.br.n - 16⟩
        inq := s.inq.drop ((16 - s.br.n) / 8)
        res := { s.res with r0 := BitVec.ofNat 32 w } }) := by
  rw [finish_aligned ha h8, brRead16_enough (s := begun s) hok hheld, taken16_eq (s := begun s) hok h8 hheld, ← hw]
  rfl

theorem finish_read16_short (hless : bitsHeld s < 16) {f : Nat → State → Res} :
    finish (fun s => inflFree opc s <| brAligned opc s <| brRead16 opc s f) s =
      .next (raiseErr .shortInput (toWord opc) (popped s.inq.length s)) := by
  rw [finish_aligned ha h8, brRead16_short (s := begun s) hok hless]
  rfl

/-- A read of 32 bits that are there, g being the byte order: w is their value. -/
theorem finish_read32 (hheld : 32 ≤ bitsHeld s) {g : Nat → Nat → Nat} {w : Nat}
    (hw : g (bitsAhead s % 65536) (bitsAhead s / 65536 % 65536) = w) :
    finish (fun s => inflFree opc s <| brAligned opc s <|
      brRead32 opc s fun lo hi s => .ok (setRes [(0, toWord (g lo hi))] s)) s =
      .next (complete { s with
        br := ⟨0, 0⟩
        inq := s.inq.drop ((32 - s.br.n) / 8)
        res := { s.res with r0 := BitVec.ofNat 32 w } }) := by
  rw [finish_aligned ha h8, brRead32_enough (s := begun s) hok hheld, taken32_eq (s := begun s) hok h8, ← hw]
  rfl

omit hok in
theorem finish_read32_short (hless : bitsHeld s < 32) {f : Nat → Nat → State → Res} :
    finish (fun s => inflFree opc s <| brAligned opc s <| brRead32 opc s f) s =
      .next (raiseErr .shortInput (toWord opc) s) := by
  rw [finish_aligned ha h8, brRead32_short (s := begun s) hless]
  rfl

end Reads

/-- Settles O29: the check of the byte boundary, then one read of 16 bits or two, and the byte order of their value. -/
theorem fixedReadsTakeWholeBytes : Obligations.FixedReadsTakeWholeBytes := by
  refine fun s ha hok => ⟨fun h8 hheld => ⟨?_, ?_⟩, fun h8 hheld => ⟨?_, ?_⟩, fun h8 hless => ⟨?_, ?_⟩,
    fun h8 hless => ⟨?_, ?_⟩, fun h8 => ⟨?_, ?_, ?_, ?_⟩⟩
  · exact finish_read16 (opc := 0x62) (g := id) ha hok h8 hheld rfl
  · exact finish_read16 (opc := 0x63) ha hok h8 hheld (swap16_low _)
  · exact finish_read32 (opc := 0x64) (g := fun lo hi => hi * 65536 + lo) ha hok h8 hheld (halves_le _)
  · exact finish_read32 (opc := 0x65) (g := fun lo hi => swap16 lo * 65536 + swap16 hi) ha hok h8 hheld (halves_be _)
  · exact finish_read16_short (opc := 0x62) ha hok h8 hless
  · exact finish_read16_short (opc := 0x63) ha hok h8 hless
  · exact finish_read32_short (opc := 0x64) ha h8 hless
  · exact finish_read32_short (opc := 0x65) ha h8 hless
  · show execBrRead16Le s = _
    exact finish_unaligned ha h8
  · show execBrRead16Be s = _
    exact finish_unaligned ha h8
  · show execBrRead32Le s = _
    exact finish_unaligned ha h8
  · show execBrRead32Be s = _
    exact finish_unaligned ha h8

end Sys2Proof.Machine
end

section
/-! PROOFS. The match finder's cursor and the slide of its window (46_lz77_compressor.md R375, R378, R380). -/

namespace Sys2Proof.Machine

/-! ## LZ_ADVANCE (R375) -/

theorem slideDue_below {z : Lz} (h : z.strStart < 65267) : slideDue z = false := decide_eq_false (Nat.not_le.2 h)

theorem Lz.advance_advance (z : Lz) (m n : Nat) : (z.advance m).advance n = z.advance (m + n) := by
  simp only [Lz.advance, Nat.add_assoc, Nat.sub_sub]

/-- Below the slide point, positions that are not inserted are only passed over. -/
theorem advanceLoop_skip (n : Nat) {z : Lz} (h : z.strStart + n < 65267) : advanceLoop false n z = z.advance n := by
  induction n generalizing z with
  | zero =>
    rw [advanceLoop, slideDue_below h]
    rfl
  | succ n ih =>
    have hnext : (z.advance 1).strStart + n < 65267 := by
      show z.strStart + 1 + n < 65267
      omega
    rw [advanceLoop, slideDue_below (by omega)]
    exact (ih hnext).trans (by rw [Lz.advance_advance, Nat.add_comm 1 n])

/-- Below the slide point, one position with three loaded bytes is inserted and passed. -/
theorem advanceLoop_insert {z : Lz} (h : z.strStart + 1 < 65267) (h3 : 3 ≤ z.lookahead) :
    advanceLoop true 1 z = (insertPos z.strStart z).advance 1 := by
  have hend : slideDue ((insertPos z.strStart z).advance 1) = false := slideDue_below h
  rw [advanceLoop, slideDue_below (by omega)]
  simp only [Bool.false_eq_true, if_false, Bool.true_and, decide_eq_true h3, if_true, advanceLoop, hend]

theorem exec_lzAdvance {s : State} (ha : s.defl.phase.active = false) {z : Lz}
    (hz : advanceLoop (s.lat.r1.getLsbD 0) s.lat.r0.toNat s.lz = z) : exec .lzAdvance s = .next (settle
      (guardErr (decide (s.lz.lookahead < s.lat.r0.toNat)) .badArg 0x73 (begun s)
        (.ok (setRes [(0, toWord z.strStart)] { begun s with lz := z })))) := by
  show execLzAdvance s = _
  rw [execLzAdvance, finish_deflFree ha, ← hz]
  rfl

/-- Settles O32: the loop of LZ_ADVANCE below the slide point, without insertion and with one. -/
theorem advanceMovesTheCursor : Obligations.AdvanceMovesTheCursor := by
  refine fun s ha => ⟨fun hn hbelow hins => ?_, fun hn h3 hbelow hins => ?_, fun hn => ?_⟩
  · have hz : advanceLoop (s.lat.r1.getLsbD 0) s.lat.r0.toNat s.lz = s.lz.advance s.lat.r0.toNat := by
      rw [hins, advanceLoop_skip _ hbelow]
    rw [exec_lzAdvance ha hz, decide_eq_false (Nat.not_lt.2 hn)]
    rfl
  · have hz : advanceLoop (s.lat.r1.getLsbD 0) s.lat.r0.toNat s.lz = (insertPos s.lz.strStart s.lz).advance 1 := by
      rw [hins, hn, advanceLoop_insert hbelow h3]
    have hfits : ¬ s.lz.lookahead < s.lat.r0.toNat := by omega
    rw [exec_lzAdvance ha hz, decide_eq_false hfits]
    rfl
  · rw [exec_lzAdvance ha rfl, decide_eq_true hn]
    rfl

/-! ## Reads of a sparse array whose cells are moved (R378) -/

section Cells

variable {α : Type} {d : α}

theorem cellGet_absent {m : List (Nat × α)} {k : Nat} (h : ∀ c ∈ m, c.1 ≠ k) : cellGet d m k = d := by
  induction m with
  | nil => rfl
  | cons c m ih =>
    obtain ⟨hc, hm⟩ := List.forall_mem_cons.1 h
    rw [cellGet, if_neg hc, ih hm]

/-- Cells behind a first part that does not list the index, or before a second part that does not. -/
theorem cellGet_append_right {m n : List (Nat × α)} {k : Nat} (h : ∀ c ∈ m, c.1 ≠ k) :
    cellGet d (m ++ n) k = cellGet d n k := by
  induction m with
  | nil => rfl
  | cons c m ih =>
    obtain ⟨hc, hm⟩ := List.forall_mem_cons.1 h
    rw [List.cons_append, cellGet, if_neg hc, ih hm]

theorem cellGet_append_left {m n : List (Nat × α)} {k : Nat} (h : ∀ c ∈ n, c.1 ≠ k) :
    cellGet d (m ++ n) k = cellGet d m k := by
  induction m with
  | nil => exact cellGet_absent h
  | cons c m ih => rw [List.cons_append, cellGet, ih, cellGet]

/-- Choosing cells by their index keeps every index that is chosen. -/
theorem cellGet_filter {p : Nat → Bool} (m : List (Nat × α)) {k : Nat} (hk : p k = true) :
    cellGet d (m.filter (fun c => p c.1)) k = cellGet d m k := by
  induction m with
  | nil => rfl
  | cons c m ih =>
    by_cases hc : c.1 = k
    case pos => rw [List.filter_cons_of_pos (by rw [hc, hk]), cellGet, cellGet, if_pos hc, if_pos hc]
    case neg =>
      rw [List.filter_cons]
      split
      · rw [cellGet, cellGet, if_neg hc, if_neg hc, ih]
      · rw [ih, cellGet, if_neg hc]

theorem cellGet_down {w : Nat} {m : List (Nat × α)} (h : ∀ c ∈ m, w ≤ c.1) (k : Nat) :
    cellGet d (m.map (fun c => (c.1 - w, c.2))) k = cellGet d m (k + w) := by
  induction m with
  | nil => rfl
  | cons c m ih =>
    obtain ⟨hc, hm⟩ := List.forall_mem_cons.1 h
    have hiff : c.1 - w = k ↔ c.1 = k + w := by omega
    simp only [List.map_cons, cellGet, hiff, ih hm]

end Cells

/-! ## The slide (R378) -/

/-- A cell of the upper half, as `slideWin` chooses it. -/
theorem wSize_le_of_mem {m : List Host.Cell} {c : Host.Cell} (h : c ∈ m.filter (fun c => decide (Config.wSize ≤ c.1))) :
    32768 ≤ c.1 := of_decide_eq_true (List.mem_filter.1 h).2

theorem cellGet_slideWin_low (m : List Host.Cell) {p : Nat} (hp : p < 32768) :
    cellGet 0 (slideWin m) p = cellGet 0 m (p + 32768) := by
  have hup : ∀ c ∈ m.filter (fun c => decide (Config.wSize ≤ c.1)), c.1 ≠ p := fun c hc => by
    have := wSize_le_of_mem hc
    omega
  have hlow : decide (p + 32768 < Config.winCap) = true := decide_eq_true (Nat.add_lt_add_right hp 32768)
  have hhigh : decide (Config.wSize ≤ p + 32768) = true := decide_eq_true (Nat.le_add_left _ _)
  calc cellGet 0 (slideWin m) p
    _ = cellGet 0 ((m.filter _).filter _) (p + 32768) :=
      (cellGet_append_left hup).trans (cellGet_down (fun c hc => wSize_le_of_mem (List.mem_filter.1 hc).1) p)
    _ = cellGet 0 (m.filter _) (p + 32768) := cellGet_filter (p := fun i => decide (i < Config.winCap)) _ hlow
    _ = cellGet 0 m (p + 32768) := cellGet_filter (p := fun i => decide (Config.wSize ≤ i)) _ hhigh

theorem cellGet_slideWin_high (m : List Host.Cell) {p : Nat} (hp : 32768 ≤ p) : cellGet 0 (slideWin m) p = cellGet 0 m p := by
  rw [slideWin, cellGet_append_right]
  · exact cellGet_filter (p := fun i => decide (Config.wSize ≤ i)) _ (decide_eq_true hp)
  · intro c hc
    obtain ⟨a, ha, rfl⟩ := List.mem_map.1 hc
    have hcap : a.1 < 65536 := of_decide_eq_true (List.mem_filter.1 ha).2
    show a.1 - 32768 ≠ p
    omega

theorem slideChain_cons (c : Nat × Nat) (m : List (Nat × Nat)) :
    slideChain (c :: m) = if 32768 < c.2 then (c.1, c.2 - 32768) :: slideChain m else slideChain m := by
  by_cases hc : 32768 < c.2 <;> simp [slideChain, Config.wSize, hc]

/-- Every position of a chain in canonical form drops by WSIZE, to NIL below it. -/
theorem cellGet_slideChain {lo : Nat} {m : List (Nat × Nat)} (hwf : cellsFrom 0 lo m = true) (k : Nat) :
    cellGet 0 (slideChain m) k = cellGet 0 m k - 32768 := by
  induction m generalizing lo with
  | nil => exact (Nat.zero_sub 32768).symm
  | cons c m ih =>
    simp only [cellsFrom, Bool.and_eq_true] at hwf
    obtain ⟨-, hm⟩ := hwf
    rw [slideChain_cons]
    by_cases hc : c.1 = k
    case pos =>
      have hrest : cellGet 0 m k = 0 := cellGet_below 0 (by omega) hm
      split <;> simp only [cellGet, hc, if_true, ih hm, hrest]
      omega
    case neg => split <;> simp only [cellGet, hc, if_false, ih hm]

theorem cellGet_slideChain_nil {m : List (Nat × Nat)} (hwf : Chain.wf m = true) (k : Nat) :
    cellGet 0 (slideChain m) k = if 32768 ≤ cellGet 0 m k then cellGet 0 m k - 32768 else 0 := by
  rw [cellGet_slideChain hwf]
  split <;> omega

/-- Settles O33: the reads of the moved window and of the rebased chains; the other fields are written out in Slide. -/
theorem slideMovesTheWindowDown : Obligations.SlideMovesTheWindowDown := fun z _ hhead hprev =>
  ⟨fun _ hp => cellGet_slideWin_low z.win hp, fun _ hp _ => cellGet_slideWin_high z.win hp, rfl, rfl,
    cellGet_slideChain_nil hhead, fun p => cellGet_slideChain_nil hprev (p % 32768), rfl, rfl, rfl⟩

end Sys2Proof.Machine
end

section
/-! PROOFS. The end of a stream (46_lz77_compressor.md R388, R393, R400-R415): the tasks of Finish one by one, then DEFL_FINISH, and
COMPRESS of no byte and of one. -/

namespace Sys2Proof.Machine

/-! ## What the writer packs, piece by piece (R320-R323) -/

/-- A pack behind the bytes o. -/
def Pack.onto (p : Pack) (o : Bytes) : Pack := ⟨p.acc, p.n, p.out ++ o⟩

theorem packBytes_onto (k : Nat) (p : Pack) (o : Bytes) : packBytes k (p.onto o) = (packBytes k p).onto o := by
  induction k generalizing p with
  | zero => rfl
  | succ k ih =>
    by_cases h : 8 ≤ p.n
    case pos =>
      simp only [packBytes, Pack.onto, h, if_true]
      exact ih ⟨p.acc >>> 8, p.n - 8, p.acc.setWidth 8 :: p.out⟩
    case neg => simp only [packBytes, Pack.onto, h, if_false]

theorem wop_run_onto (op : WOp) (p : Pack) (o : Bytes) : op.run (p.onto o) = (op.run p).onto o := by
  cases op with
  | bits v n => exact packBytes_onto _ ⟨p.acc ||| (BitVec.ofNat 32 v <<< p.n), p.n + n, p.out⟩ o
  | align =>
    by_cases h : 0 < p.n
    case pos => simp only [WOp.run, packAlign, Pack.onto, h, if_true, List.cons_append]
    case neg => simp only [WOp.run, packAlign, Pack.onto, h, if_false]
  | raw bs => simp only [WOp.run, Pack.onto, List.append_assoc]

theorem packOps_onto (ops : List WOp) (p : Pack) (o : Bytes) : packOps ops (p.onto o) = (packOps ops p).onto o := by
  induction ops generalizing p with
  | nil => rfl
  | cons op ops ih => exact (congrArg (packOps ops) (wop_run_onto op p o)).trans (ih (op.run p))

/-- Operations cut in two: the second part goes on with the accumulator, and its bytes follow. -/
theorem packOps_append (a b : List WOp) (p : Pack) :
    packOps (a ++ b) p = (packOps b ⟨(packOps a p).acc, (packOps a p).n, []⟩).onto (packOps a p).out := by
  rw [← packOps_onto]
  simp only [packOps, List.foldl_append, Pack.onto, List.nil_append]

/-! ## Operations sent to OUT (R327, R331, R410) -/

/-- The bytes that a Flush sends after the writer operations: PENDING, then what they pack. -/
def sentBytes (ops : List WOp) (s : State) : Bytes := s.bw.pending ++ (packOps ops ⟨s.bw.acc, s.bw.n, []⟩).out.reverse

/-- The state after the operations and the compressor's Flush. -/
def sent (ops : List WOp) (s : State) : State :=
  let q := packOps ops ⟨s.bw.acc, s.bw.n, []⟩
  { s with
    outq := s.outq ++ sentBytes ops s
    bw := ⟨q.acc, q.n, []⟩
    defl := { s.defl with outCount := s.defl.outCount + BitVec.ofNat 32 (sentBytes ops s).length } }

/-- PENDING and OUT have room for the operations' bytes. -/
def Sendable (ops : List WOp) (s : State) : Prop :=
  (sentBytes ops s).length ≤ Config.pendingCap ∧ outRoom s (sentBytes ops s).length = (sentBytes ops s).length

theorem sentBytes_append (a b : List WOp) (s : State) : sentBytes (a ++ b) s = sentBytes a s ++ sentBytes b (sent a s) := by
  simp only [sentBytes, sent, packOps_append, Pack.onto, List.reverse_append, List.nil_append, List.append_assoc]

theorem sent_append (a b : List WOp) (s : State) : sent (a ++ b) s = sent b (sent a s) := by
  have hcount : s.defl.outCount + BitVec.ofNat 32 (sentBytes (a ++ b) s).length =
      (sent a s).defl.outCount + BitVec.ofNat 32 (sentBytes b (sent a s)).length := by
    rw [sentBytes_append, List.length_append, BitVec.ofNat_add, ← BitVec.add_assoc]
    rfl
  have hout : s.outq ++ sentBytes (a ++ b) s = (sent a s).outq ++ sentBytes b (sent a s) := by
    rw [sentBytes_append, ← List.append_assoc]
    rfl
  rw [sent, hcount, hout, packOps_append]
  rfl

theorem Sendable.append {a b : List WOp} {s : State} (h : Sendable (a ++ b) s) : Sendable a s ∧ Sendable b (sent a s) := by
  obtain ⟨hcap, hroom⟩ := h
  rw [sentBytes_append] at hcap hroom
  rw [List.length_append] at hcap
  refine ⟨⟨by omega, outRoom_mono (by simp) hroom⟩, by omega, outRoom_iff.2 fun c hc => ?_⟩
  have hfits := outRoom_iff.1 hroom c hc
  rw [List.length_append] at hfits
  show _ ≤ c - (s.outq ++ sentBytes a s).length
  rw [List.length_append]
  omega

/-- The state after the operations, their bytes in PENDING. -/
def written (ops : List WOp) (s : State) : State :=
  let q := packOps ops ⟨s.bw.acc, s.bw.n, []⟩
  { s with bw := ⟨q.acc, q.n, sentBytes ops s⟩ }

theorem drive_writeOps (k : Nat) {ops : List WOp} {s : State} (h : Sendable ops s) :
    drive (k + 1) (writeOps .stream ops s) = drive k (written ops s) := by
  have hcap := h.1
  rw [sentBytes, List.length_append] at hcap
  exact drive_ok (t := .pend .stream (packOps ops ⟨s.bw.acc, s.bw.n, []⟩).out.reverse) rfl
    (runPend_fits (s := { s with bw := { s.bw with
      acc := (packOps ops ⟨s.bw.acc, s.bw.n, []⟩).acc, n := (packOps ops ⟨s.bw.acc, s.bw.n, []⟩).n } })
      (Nat.le_sub_of_add_le' hcap))

/-- The flush of a PENDING that OUT has room for. -/
theorem runFlush_stream_room {s : State} {bs : Bytes} (hbs : s.bw.pending = bs) (h : outRoom s bs.length = bs.length) :
    runFlush .stream s = .ok { s with
      outq := s.outq ++ bs
      bw := { s.bw with pending := [] }
      defl := { s.defl with outCount := s.defl.outCount + BitVec.ofNat 32 bs.length } } := by
  subst hbs
  simp [runFlush, h]

/-! ## The tasks of Finish (R388, R400, R409, R411) -/

/-- The emission of the final block that the pairs make (R400-R409). -/
def finalBlockOps (p : BlockPlan) (s : State) : List WOp :=
  blockOps true (blockKind s.defl.params.level (s.defl.blockEnd - s.defl.blockStart) p)
    (cellTake s.lz.win s.defl.blockStart (s.defl.blockEnd - s.defl.blockStart)) s.defl.pairs p

/-- The padding and the trailer (R411). -/
def trailerOps (s : State) : List WOp :=
  if s.defl.params.nowrap = true then [.align] else [.align, .raw (be32 s.defl.adler.toNat)]

/-- The trees and the block's bounds as FlushBlock leaves them (R400, R409). -/
def blockClosed (p : BlockPlan) (s : State) : State :=
  { s with
    t0 := builtTree p.stats.lf p.len0
    t1 := builtTree p.stats.df p.len1
    t2 := builtTree p.bf p.len2
    defl := { s.defl with phase := .searching, pairs := [], blockStart := s.defl.blockEnd } }

/-- Operations sent later neither read nor change what closes a block. -/
theorem sent_blockClosed (ops : List WOp) (p : BlockPlan) (s : State) :
    sent ops (blockClosed p s) = blockClosed p (sent ops s) := rfl

/-- DEFL_STATE = FINISHED. -/
def setFinished (s : State) : State := { s with defl := { s.defl with phase := .finished } }

/-- With nothing staged Fill loads nothing (R377). -/
theorem fillWindow_nil (z : Lz) : fillWindow z [] = (z, []) := by
  simp [fillWindow, Lz.load, cellPut]

theorem emitHeld_tasks (s : State) (ts : List Task) :
    emitHeld { s with tasks := ts } = { emitHeld s with tasks := ts } := by
  cases h : s.lz.matchAvail <;> simp only [emitHeld, h] <;> rfl

section Tasks

variable {s : State} {ts : List Task}

theorem runTask_deflRun_below (hslide : s.lz.strStart < 65267) :
    runTask .deflRun { s with tasks := .deflRun :: ts } = .ok { s with tasks := .deflGo :: ts } := by
  simp only [runTask, runDefl, slideDue_below hslide]
  rfl

section Loaded

variable (hfin : s.defl.fin = true) (hstage : s.defl.stage = [])

include hfin hstage

/-- With everything searched and no input to come, Finish begins (R388, R411). -/
theorem runDeflGo_searched (hla : s.lz.lookahead = 0) : runDeflGo s = .ok (startFinish s) := by
  have hfill : fillWindow s.lz s.defl.stage = (s.lz, s.defl.stage) := by rw [hstage, fillWindow_nil]
  rw [runDeflGo, hfill]
  exact (if_neg fun h => by simp [hfin] at h).trans (if_pos hla)

/-- With bytes left to search and no input to come, one step (R388). -/
theorem runDeflGo_step (hla : s.lz.lookahead ≠ 0) {t : State}
    (hstep : deflStep { s with defl := { s.defl with phase := .searching } } = t)
    (hfew : t.defl.pairs.length < Config.litBufsize) :
    runDeflGo s = .ok { t with tasks := .deflRun :: t.tasks } := by
  have hfill : fillWindow s.lz s.defl.stage = (s.lz, s.defl.stage) := by rw [hstage, fillWindow_nil]
  subst hstep
  rw [runDeflGo, hfill]
  exact (if_neg fun h => by simp [hfin] at h).trans ((if_neg hla).trans
    (congrArg (fun ts => Res.ok { deflStep { s with defl := { s.defl with phase := .searching } } with tasks := ts })
      (if_neg (Nat.not_le.2 hfew))))

end Loaded

theorem runFlushBlock_planned {final : Bool} {p : BlockPlan} (hplan : planBlock s.params s.defl.pairs = some p)
    (hsave : s.zip.saving = false) {ops : List WOp}
    (hops : blockOps final (blockKind s.defl.params.level (s.defl.blockEnd - s.defl.blockStart) p)
      (cellTake s.lz.win s.defl.blockStart (s.defl.blockEnd - s.defl.blockStart)) s.defl.pairs p = ops) :
    runFlushBlock final s = .ok (writeOps .stream ops { s with
      defl := { s.defl with phase := .emitting }
      t0 := builtTree p.stats.lf p.len0
      t1 := builtTree p.stats.df p.len1
      t2 := builtTree p.bf p.len2
      tasks := .blockEnd :: .flush .stream :: .blockDone :: s.tasks }) := by
  subst hops
  simp only [runFlushBlock, hplan, deflDest, hsave]
  rfl

variable (k : Nat)

theorem drive_searched (hslide : s.lz.strStart < 65267) (hfin : s.defl.fin = true) (hla : s.lz.lookahead = 0)
    (hstage : s.defl.stage = []) : drive (k + 2) { s with tasks := .deflRun :: ts } =
      drive k { emitHeld s with tasks := .flushBlock true :: .deflTail :: ts } := by
  have hgo : runTask .deflGo { s with tasks := .deflGo :: ts } =
      .ok { emitHeld s with tasks := .flushBlock true :: .deflTail :: ts } := by
    refine (runDeflGo_searched (s := { s with tasks := ts }) hfin hstage hla).trans ?_
    rw [startFinish, emitHeld_tasks]
  rw [drive_ok rfl (runTask_deflRun_below hslide), drive_ok rfl hgo]

theorem drive_finalBlock {p : BlockPlan} (hplan : planBlock s.params s.defl.pairs = some p) (hsave : s.zip.saving = false)
    (hsend : Sendable (finalBlockOps p s) s) : drive (k + 5) { s with tasks := .flushBlock true :: ts } =
      drive k { blockClosed p (sent (finalBlockOps p s) s) with tasks := ts } := by
  have hblock := runFlushBlock_planned (s := { s with tasks := ts }) (final := true) hplan hsave rfl
  calc drive (k + 5) { s with tasks := .flushBlock true :: ts }
    _ = drive (k + 4) _ := drive_ok rfl hblock
    _ = drive (k + 3) (written (finalBlockOps p s) _) := drive_writeOps _ hsend
    _ = drive (k + 2) _ := drive_ok rfl rfl
    _ = drive (k + 1) _ := drive_ok rfl (runFlush_stream_room rfl hsend.2)
    _ = drive k { blockClosed p (sent (finalBlockOps p s) s) with tasks := ts } := drive_ok rfl rfl

theorem drive_trailer (hsave : s.zip.saving = false) (hsend : Sendable (trailerOps s) s) :
    drive (k + 4) { s with tasks := .deflTail :: ts } = drive k { setFinished (sent (trailerOps s) s) with tasks := ts } := by
  have htail : runTask .deflTail { s with tasks := .deflTail :: ts } = .ok (writeOps .stream (trailerOps s)
      { s with tasks := .flush .stream :: .deflDone :: ts }) := by
    simp only [runTask, runDeflTail, deflDest, hsave]
    rfl
  calc drive (k + 4) { s with tasks := .deflTail :: ts }
    _ = drive (k + 3) _ := drive_ok rfl htail
    _ = drive (k + 2) (written (trailerOps s) _) := drive_writeOps _ hsend
    _ = drive (k + 1) _ := drive_ok rfl (runFlush_stream_room rfl hsend.2)
    _ = drive k { setFinished (sent (trailerOps s) s) with tasks := ts } := drive_ok rfl rfl

/-- The state as Finish leaves it, every byte of the stream sent (R411, R414, R415). -/
def streamEnded (p : BlockPlan) (s : State) : State :=
  let t := setFinished (blockClosed p (sent (finalBlockOps p s ++ trailerOps s) s))
  setRes [(0, t.defl.outCount), (1, t.defl.adler)] t

/-- The end of a stream whose block and trailer are the operations ops; the trees are those of the block. -/
theorem streamEnded_eq {p : BlockPlan} {ops : List WOp} (hops : finalBlockOps p s ++ trailerOps s = ops) :
    ∃ a b c : HTree, streamEnded p s = { sent ops s with
      t0 := a
      t1 := b
      t2 := c
      defl := { (sent ops s).defl with phase := .finished, blockStart := s.defl.blockEnd, pairs := [] }
      res := { s.res with r0 := (sent ops s).defl.outCount, r1 := s.defl.adler } } := by
  subst hops
  exact ⟨_, _, _, rfl⟩

/-- From the loop's head to the end of the command, u being the state once the held byte is out. -/
theorem drive_finish (hslide : s.lz.strStart < 65267) (hfin : s.defl.fin = true) (hla : s.lz.lookahead = 0)
    (hstage : s.defl.stage = []) {u : State} (hu : emitHeld s = u) (hsave : u.zip.saving = false) {p : BlockPlan}
    (hplan : planBlock u.params u.defl.pairs = some p) (hsend : Sendable (finalBlockOps p u ++ trailerOps u) u) :
    drive (k + 12) { s with tasks := [.deflRun, .deflFinishRes] } = complete (streamEnded p u) := by
  obtain ⟨hblock, htrailer⟩ := hsend.append
  obtain ⟨t, ht⟩ : ∃ t, setFinished (blockClosed p (sent (finalBlockOps p u ++ trailerOps u) u)) = t := ⟨_, rfl⟩
  have hsent : setFinished (sent (trailerOps u) (blockClosed p (sent (finalBlockOps p u) u))) = t := by
    rw [← ht, sent_append, sent_blockClosed]
  calc drive (k + 12) { s with tasks := [.deflRun, .deflFinishRes] }
    _ = drive (k + 10) { u with tasks := [.flushBlock true, .deflTail, .deflFinishRes] } := by
      rw [drive_searched _ hslide hfin hla hstage, hu]
    _ = drive (k + 5) { blockClosed p (sent (finalBlockOps p u) u) with tasks := [.deflTail, .deflFinishRes] } :=
      drive_finalBlock _ hplan hsave hblock
    _ = drive (k + 1) { t with tasks := [.deflFinishRes] } := by
      rw [← hsent]
      exact drive_trailer (s := blockClosed p (sent (finalBlockOps p u) u)) _ hsave htrailer
    _ = drive k (setRes [(0, t.defl.outCount), (1, t.defl.adler)] { t with tasks := [] }) :=
      drive_ok (t := .deflFinishRes) rfl rfl
    _ = complete (streamEnded p u) := by
      rw [drive_nil rfl, streamEnded, ht]
      rfl

end Tasks

/-! ## DEFL_FINISH (R414) -/

/-- What R393 leaves, whether a byte is held or not. -/
def heldOut (s : State) : State :=
  { s with
    lz := { s.lz with matchAvail := false }
    defl := { s.defl with
      pairs := if s.lz.matchAvail = true then s.defl.pairs ++ [((winAt s.lz (s.lz.strStart - 1)).toNat, 0)] else s.defl.pairs
      blockEnd := if s.lz.matchAvail = true then s.defl.blockEnd + 1 else s.defl.blockEnd } }

theorem emitHeld_eq (s : State) : emitHeld s = heldOut s := by
  rw [heldOut]
  cases h : s.lz.matchAvail with
  | false =>
    have hlz : ({ s.lz with matchAvail := false } : Lz) = s.lz := by rw [← h]
    rw [emitHeld_none h, hlz]
    rfl
  | true => exact if_pos h

theorem exec_deflFinish_filling {s : State} (hph : s.defl.phase = .filling) :
    exec .deflFinish s = .next (run { setFin s with tasks := [.deflRun, .deflFinishRes] }) :=
  launch_ok (f := fun s => deflReady 0x82 s (.ok { setFin s with tasks := [.deflRun, .deflFinishRes] }))
    (deflReady_filling (s := begun s) hph)

theorem exec_deflFinish_finished {s : State} (hph : s.defl.phase = .finished) :
    exec .deflFinish s = .next (raiseErr .streamFinished 0x82 s) :=
  launch_refuse (f := fun s => deflReady 0x82 s (.ok { setFin s with tasks := [.deflRun, .deflFinishRes] }))
    (deflReady_finished (s := begun s) hph)

/-! ## COMPRESS (R415) -/

section Compress

variable {s : State}

/-- CTRL at reset: level 6 with its own strategy, and the zlib wrapper (10_state.md R40). -/
theorem ctrlParams_reset (h : s.ctrl = 0x8C) : ctrlBad s = false ∧ ctrlParams s = mkParams 6 0 false := by
  simp [ctrlBad, ctrlParams, ctrlLevel, ctrlStrat, ctrlNowrap, h]

/-- The state in which COMPRESS reads IN, at level 6 in the zlib wrapper (R376, R412). -/
def freshStream (s : State) : State :=
  { s with
    t0 := HTree.reset 286
    t1 := HTree.reset 30
    t2 := HTree.reset 19
    bw := ⟨0, 0, [0x78, 0x9C]⟩
    lz := { Lz.reset with win := s.lz.win }
    defl := ⟨.filling, 1, 1, [], [], [], 1, 0, false, mkParams 6 0 false⟩ }

theorem deflReset_level6 (s : State) : deflReset (mkParams 6 0 false) s = freshStream s := rfl

theorem exec_compress (h : s.ctrl = 0x8C) :
    exec .compress s = .next (run { freshStream s with tasks := [.compress] }) := by
  obtain ⟨hbad, hparams⟩ := ctrlParams_reset h
  have hbad' : ctrlBad (begun s) = false := hbad
  have hparams' : ctrlParams (begun s) = mkParams 6 0 false := hparams
  refine launch_ok (f := fun s => guardErr (ctrlBad s) .badArg 0x83 s (.ok { deflReset (ctrlParams s) s with
    tasks := [.compress] })) ?_
  rw [hbad', hparams', guardErr_false, deflReset_level6]
  rfl

/-- IN is empty and ended: the stream is finished. -/
theorem runTask_compress_ended {ts : List Task} (hin : s.inq = []) (hend : s.inEnd = true) :
    runTask .compress { s with tasks := .compress :: ts } =
      .ok { setFin s with tasks := .deflRun :: .deflFinishRes :: ts } :=
  (if_neg (not_not.2 hin)).trans (if_pos hend)

theorem runTask_compress_bytes {ts : List Task} (hin : s.inq ≠ []) :
    runTask .compress { s with tasks := .compress :: ts } =
      .ok { stageBytes s.inq s with inq := [], tasks := .deflRun :: .compress :: ts } :=
  if_pos hin

end Compress

/-! ### No byte -/

theorem planBlock_default {q : Params} (h : q.lengths = []) (pairs : List (Nat × Nat)) :
    planBlock q pairs = planBlock Params.default pairs := by
  simp only [planBlock, lengthsFor_default h, lengthsFor_default (p := Params.default) rfl]

set_option maxRecDepth 100000 in
/-- The reference's block of no pair is a fixed one. -/
theorem planBlock_empty {q : Params} (h : q.lengths = []) : ∃ p, planBlock q [] = some p ∧ blockKind 6 0 p = 1 := by
  have hkind : (planBlock Params.default []).map (blockKind 6 0) = some 1 := by decide
  rw [planBlock_default h]
  exact Option.map_eq_some_iff.1 hkind

/-- The fixed block of no pair, the padding and the sum 1. -/
def emptyStreamOps : List WOp := [WOp.bits 1 1, .bits 1 2] ++ symbolOps fixedLL fixedD [] ++ [WOp.align, .raw (be32 1)]

set_option maxRecDepth 100000 in
theorem packOps_emptyStream : packOps emptyStreamOps ⟨0, 0, []⟩ = ⟨0, 0, [0x01, 0x00, 0x00, 0x00, 0x00, 0x03]⟩ := by decide

section Empty

variable {s : State}

/-- The state in which COMPRESS of no byte finishes its stream. -/
def emptyLoaded (s : State) : State := setFin (freshStream s)

theorem finalOps_empty {p : BlockPlan} (hkind : blockKind 6 0 p = 1) :
    finalBlockOps p (emptyLoaded s) ++ trailerOps (emptyLoaded s) = emptyStreamOps := by
  show blockOps true (blockKind 6 0 p) [] [] p ++ [WOp.align, .raw (be32 1)] = emptyStreamOps
  rw [hkind]
  rfl

theorem sentBytes_empty : sentBytes emptyStreamOps (emptyLoaded s) = [0x78, 0x9C, 0x03, 0x00, 0x00, 0x00, 0x00, 0x01] := by
  show [0x78, 0x9C] ++ (packOps emptyStreamOps ⟨0, 0, []⟩).out.reverse = _
  rw [packOps_emptyStream]
  rfl

theorem sent_empty : sent emptyStreamOps (emptyLoaded s) = { emptyLoaded s with
    outq := s.outq ++ [0x78, 0x9C, 0x03, 0x00, 0x00, 0x00, 0x00, 0x01]
    bw := ⟨0, 0, []⟩
    defl := { (emptyLoaded s).defl with outCount := 8 } } := by
  have hpack : packOps emptyStreamOps ⟨(emptyLoaded s).bw.acc, (emptyLoaded s).bw.n, []⟩ = _ := packOps_emptyStream
  rw [sent, sentBytes_empty, hpack]
  rfl

theorem sendable_empty (hroom : outRoom s 8 = 8) : Sendable emptyStreamOps (emptyLoaded s) := by
  rw [Sendable, sentBytes_empty]
  exact ⟨by decide, hroom⟩

theorem exec_compress_empty (hin : s.inq = []) (hend : s.inEnd = true) (hctrl : s.ctrl = 0x8C)
    (hsave : s.zip.saving = false) {p : BlockPlan} (hplan : planBlock s.params [] = some p)
    (hsend : Sendable (finalBlockOps p (emptyLoaded s) ++ trailerOps (emptyLoaded s)) (emptyLoaded s)) :
    exec .compress s = .next (complete (streamEnded p (emptyLoaded s))) := by
  have hended := runTask_compress_ended (s := freshStream s) (ts := []) hin hend
  rw [exec_compress hctrl, run_eq, drive_ok rfl hended]
  exact congrArg _ (drive_finish _ (s := emptyLoaded s) (by show 1 < 65267; decide) rfl rfl rfl (emitHeld_none rfl) hsave
    hplan hsend)

end Empty

/-! ### One byte -/

/-- Reading back the byte that Fill has loaded into an empty lookahead. -/
theorem winAt_load {z : Lz} (hwf : Memory.wf z.win = true) (hla : z.lookahead = 0) (x : Byte) :
    winAt (z.load [x]) z.strStart = x := by
  have hwin : (z.load [x]).win = cellSet 0 z.win z.strStart x := by
    simp only [Lz.load, hla, Nat.add_zero, cellPut]
  rw [winAt, hwin, cellGet_cellSet_same 0 z.strStart x hwf]

/-- What the step of the last byte leaves: nothing ahead, and the byte a literal, held or recorded. -/
structure LastLiteral (s t : State) : Prop where
  strStart : t.lz.strStart = s.lz.strStart + 1
  lookahead : t.lz.lookahead = 0
  fin : t.defl.fin = s.defl.fin
  stage : t.defl.stage = s.defl.stage
  tasks : t.tasks = s.tasks
  pairs : t.defl.pairs.length ≤ s.defl.pairs.length + 1
  literal : ∃ z : Lz, z.win = s.lz.win ∧
    emitHeld t = { s with lz := z, defl := addLit (winAt s.lz s.lz.strStart) s.defl }

section LastByte

variable {s : State} (hla : s.lz.lookahead = 1) (hav : s.lz.matchAvail = false)

include hla

/-- A match needs three bytes. -/
theorem finderChoice_lastByte {r : FindRow} (h : finderChoice s = some r) : r.take = none := by
  cases ht : r.take with
  | none => rfl
  | some m =>
    obtain ⟨h3, -, -, -, hfits, -⟩ := matchOk_spec (finderChoice_match h ht)
    omega

include hav

/-- The lazy step holds a last byte (R390). -/
theorem stepLazy_lastByte (hlen : s.lz.matchLen = 2) :
    stepLazy s = { s with lz := { s.lz.advance 1 with matchAvail := true } } := by
  simp [stepLazy, insertHead, hla, hav, hlen, Lz.advance]

theorem deflStep_lastByte (hlen : s.lz.matchLen = 2) (hlazy : s.defl.params.strategy = .lazy) :
    LastLiteral s (deflStep s) := by
  cases h : finderChoice s with
  | none =>
    have hstep : deflStep s = { s with lz := { s.lz.advance 1 with matchAvail := true } } := by
      rw [← stepLazy_lastByte hla hav hlen]
      simp only [deflStep, h, referenceStep, hlazy]
    rw [hstep]
    exact ⟨rfl, by simp [Lz.advance, hla], rfl, rfl, rfl, Nat.le_succ _, { s.lz.advance 1 with matchAvail := false }, rfl,
      if_pos rfl⟩
  | some r =>
    rw [deflStep_literal h (finderChoice_lastByte hla h) hav]
    refine ⟨by simp [Lz.advance], by simp [Lz.advance, hla], rfl, rfl, rfl, by simp [addLit], _, ?_,
      emitHeld_none (by simp [Lz.advance, hav])⟩
    simp [Lz.advance]

end LastByte

/-- One byte ahead and no input to come: its literal, then Finish. -/
theorem drive_lastByte (k : Nat) {s : State} (hslide : s.lz.strStart + 1 < 65267) (hla : s.lz.lookahead = 1)
    (hav : s.lz.matchAvail = false) (hlen : s.lz.matchLen = 2) (hlazy : s.defl.params.strategy = .lazy)
    (hfin : s.defl.fin = true) (hstage : s.defl.stage = []) (hfew : s.defl.pairs.length + 1 < Config.litBufsize) :
    ∃ z : Lz, z.win = s.lz.win ∧ ∀ (u : State) (p : BlockPlan), u = { s with
        lz := z
        defl := addLit (winAt s.lz s.lz.strStart) { s.defl with phase := .searching }
        tasks := [.deflFinishRes] } →
      u.zip.saving = false → planBlock u.params u.defl.pairs = some p → Sendable (finalBlockOps p u ++ trailerOps u) u →
      drive (k + 14) { s with tasks := [.deflRun, .deflFinishRes] } = complete (streamEnded p u) := by
  obtain ⟨t, ht⟩ : ∃ t, deflStep { s with defl := { s.defl with phase := .searching }, tasks := [.deflFinishRes] } = t :=
    ⟨_, rfl⟩
  have hlit := deflStep_lastByte (s := { s with defl := { s.defl with phase := .searching }, tasks := [.deflFinishRes] })
    hla hav hlen hlazy
  rw [ht] at hlit
  obtain ⟨z, hwin, hheld⟩ := hlit.literal
  refine ⟨z, hwin, fun u p hu hsave hplan hsend => ?_⟩
  have hgo : runTask .deflGo { s with tasks := [.deflGo, .deflFinishRes] } =
      .ok { t with tasks := [.deflRun, .deflFinishRes] } := by
    rw [show [Task.deflRun, .deflFinishRes] = .deflRun :: t.tasks by rw [hlit.tasks]]
    exact runDeflGo_step (s := { s with tasks := [.deflFinishRes] }) hfin hstage (by simp [hla]) ht
      (hlit.pairs.trans_lt hfew)
  rw [drive_ok rfl (runTask_deflRun_below (by omega)), drive_ok rfl hgo]
  exact drive_finish _ (by rw [hlit.strStart]; exact hslide) (hlit.fin.trans hfin) hlit.lookahead (hlit.stage.trans hstage)
    (hheld.trans hu.symm) hsave hplan hsend

section Byte

variable {s : State} {x : Byte}

/-- The state in which COMPRESS of the byte x has its step to make: the byte is loaded, and no input follows. -/
def byteLoaded (x : Byte) (s : State) : State :=
  let t := freshStream s
  { t with
    inq := []
    lz := t.lz.load [x]
    defl := { t.defl with input := [x], adler := adler 1 [x], fin := true } }

/-- The same state once its byte is a literal, with window z. -/
def byteRecorded (x : Byte) (z : Lz) (s : State) : State :=
  { byteLoaded x s with
    lz := z
    defl := addLit x { (byteLoaded x s).defl with phase := .searching }
    tasks := [.deflFinishRes] }

theorem drive_compress_byte (k : Nat) (hin : s.inq = [x]) (hend : s.inEnd = true) :
    drive (k + 4) { freshStream s with tasks := [.compress] } =
      drive k { byteLoaded x s with tasks := [.deflRun, .deflFinishRes] } := by
  have hbytes : runTask .compress { freshStream s with tasks := [.compress] } =
      .ok { stageBytes [x] (freshStream s) with inq := [], tasks := [.deflRun, .compress] } := by
    rw [← hin]
    exact runTask_compress_bytes (s := freshStream s) (hin ▸ List.cons_ne_nil x [])
  have hload : runTask .deflGo { stageBytes [x] (freshStream s) with
      inq := [], tasks := [.deflGo, .compress] } = .ok { byteLoaded x s with
        defl := { (byteLoaded x s).defl with fin := false }, tasks := [.compress] } :=
    runDeflGo_filling (s := { stageBytes [x] (freshStream s) with inq := [], tasks := [.compress] })
      rfl rfl (show 1 < 65267 by decide) (show 1 < 269 by decide)
  have hended : runTask .compress { byteLoaded x s with
      defl := { (byteLoaded x s).defl with fin := false }, tasks := [.compress] } =
        .ok { byteLoaded x s with tasks := [.deflRun, .deflFinishRes] } :=
    runTask_compress_ended (s := { byteLoaded x s with defl := { (byteLoaded x s).defl with fin := false } }) rfl hend
  calc drive (k + 4) { freshStream s with tasks := [.compress] }
    _ = drive (k + 3) _ := drive_ok rfl hbytes
    _ = drive (k + 2) _ := drive_ok rfl (runTask_deflRun_below
      (s := { stageBytes [x] (freshStream s) with inq := [] }) (show 1 < 65267 by decide))
    _ = drive (k + 1) _ := drive_ok rfl hload
    _ = drive k _ := drive_ok rfl hended

theorem finalOps_byte {z : Lz} (hz : cellGet 0 z.win 1 = x) (p : BlockPlan) :
    finalBlockOps p (byteRecorded x z s) ++ trailerOps (byteRecorded x z s) =
      blockOps true (blockKind 6 1 p) [x] [(x.toNat, 0)] p ++ [WOp.align, .raw (be32 (adler 1 [x]).toNat)] := by
  have hraw : cellTake z.win 1 1 = [x] := by rw [cellTake, hz, cellTake]
  show blockOps true (blockKind 6 1 p) (cellTake z.win 1 1) [(x.toNat, 0)] p ++ _ = _
  rw [hraw]
  rfl

theorem exec_compress_byte (hin : s.inq = [x]) (hend : s.inEnd = true) (hctrl : s.ctrl = 0x8C)
    (hsave : s.zip.saving = false) (hwf : Memory.wf s.lz.win = true) {p : BlockPlan}
    (hplan : planBlock s.params [(x.toNat, 0)] = some p) : ∃ z : Lz, cellGet 0 z.win 1 = x ∧
      (Sendable (finalBlockOps p (byteRecorded x z s) ++ trailerOps (byteRecorded x z s)) (byteRecorded x z s) →
        exec .compress s = .next (complete (streamEnded p (byteRecorded x z s)))) := by
  have hx : winAt (byteLoaded x s).lz (byteLoaded x s).lz.strStart = x :=
    winAt_load (z := (freshStream s).lz) hwf rfl x
  obtain ⟨z, hwin, hrun⟩ := drive_lastByte (budget { freshStream s with tasks := [.compress] } - 100 + 82)
    (s := byteLoaded x s) (show 2 < 65267 by decide) rfl rfl rfl rfl rfl rfl (show 1 < 16384 by decide)
  refine ⟨z, by rw [hwin]; exact hx, fun hsend => ?_⟩
  rw [exec_compress hctrl, run_eq, drive_compress_byte _ hin hend,
    hrun (byteRecorded x z s) p (by rw [hx]; rfl) hsave hplan hsend]

end Byte

/-- Settles O36: in each case the tasks of Finish run from a state with all input searched; what they pack is one list of writer
operations. -/
theorem finishingTheStream : Obligations.FinishingTheStream := by
  refine ⟨fun s p hph hla hstage hslide hsave hplan hcap hroom => ?_,
    fun s hin hend hctrl hlen hroom hsave => ?_, fun s x p hin hend hctrl hsave hwf hplan hcap hroom => ?_,
    fun s => exec_deflFinish_finished⟩
  · obtain ⟨a, b, c, hended⟩ := streamEnded_eq (p := p) (s := heldOut (setFin s)) rfl
    rw [exec_deflFinish_filling hph, run_eq, drive_finish _ (s := setFin s) hslide rfl hla hstage (emitHeld_eq _)
      hsave hplan ⟨hcap, hroom⟩, hended]
    refine ⟨a, b, c, ?_⟩
    rfl
  · obtain ⟨p, hplan, hkind⟩ := planBlock_empty hlen
    have hops := finalOps_empty (s := s) hkind
    obtain ⟨a, b, c, hended⟩ := streamEnded_eq hops
    rw [exec_compress_empty hin hend hctrl hsave hplan (hops ▸ sendable_empty hroom), hended, sent_empty]
    exact ⟨a, b, c, rfl⟩
  · obtain ⟨z, hz, hrun⟩ := exec_compress_byte hin hend hctrl hsave hwf hplan
    have hops := finalOps_byte (s := s) hz p
    obtain ⟨a, b, c, hended⟩ := streamEnded_eq hops
    rw [hops, hended] at hrun
    exact ⟨_, hrun ⟨hcap, hroom⟩, rfl, rfl, rfl, rfl, rfl, BitVec.zero_add _, rfl⟩

end Sys2Proof.Machine
end

section
/-! PROOFS. Whole streams in the decompressor (47_deflate_decompressor.md R450-R457, R462-R464): what stands at the cursor of a zlib
header, a block header, an end of block and a trailer with their bytes in IN, the stored copy, and the end of the command. -/

namespace Sys2Proof.Machine

/-! ## Reads at the cursor -/

/-- The budget leaves room for one task for each byte of a stored block. -/
theorem run_eq_within {m : Nat} (hm : m ≤ 65635) (s : State) : run s = drive (budget s - m + m) s := by
  rw [run, Nat.sub_add_cancel]
  simp only [budget]
  omega

/-- A wire symbol at the cursor has its effect. -/
theorem runInfl_word {s s1 : State} {f : Fmt} {w : Nat} {i : Instr} (hf : inflFetch s = .word f w s1)
    (hd : decode f w = .ok i) : runInfl s = wire i s1 := by
  simp only [runInfl, hf, hd]

theorem drive_infl {k : Nat} {s s1 : State} {ts : List Task} (ht : s.tasks = .infl :: ts) (h : runInfl s = .ok s1) :
    drive (k + 1) s = drive k s1 := drive_ok ht h

theorem fetch_val {g : Got} {v : Nat} {s : State} (h : g = .val v s) (f : Nat → State → Fetch) : g.fetch f = f v s := by
  rw [h, Got.fetch]

/-- An empty reader takes a byte of IN as eight bits. -/
theorem readBits_byte {s : State} (hsrc : s.infl.src = .input) (hbr : s.br = ⟨0, 0⟩) {b : Byte} {bs : Bytes}
    (hq : s.inq = b :: bs) : readBits 8 s = .val b.toNat { s with
      inq := bs, infl := { s.infl with consumed := s.infl.consumed + 1 } } := by
  have haligned : s.br.n % 8 = 0 := by simp [hbr]
  rw [← readByte_eq haligned, readByte_empty hsrc hbr hq]

/-! ## The zlib wrapper (R454, R463) -/

/-- The state after k bytes of the trailer are taken from IN, bs those taken so far. -/
def trailerTaken (bs : Bytes) (k : Nat) (rest : Bytes) (s : State) : State :=
  { s with inq := rest, infl := { s.infl with consumed := s.infl.consumed + toWord k, cont := .trailer bs } }

theorem trailerTaken_succ (bs cs : Bytes) (k : Nat) (q rest : Bytes) (s : State) :
    trailerTaken bs k rest (trailerTaken cs 1 q s) = trailerTaken bs (k + 1) rest s := by
  have hcount : s.infl.consumed + toWord 1 + toWord k = s.infl.consumed + toWord (k + 1) := by
    rw [toWord, toWord, toWord, Nat.add_comm k 1, BitVec.ofNat_add, BitVec.add_assoc]
  rw [trailerTaken, trailerTaken, trailerTaken, ← hcount]

theorem fetchTrailer_input (more : Bytes) : ∀ {s : State} {bs rest : Bytes}, s.infl.src = .input → s.br = ⟨0, 0⟩ →
    s.infl.cont = .trailer bs → s.inq = more ++ rest →
    fetchTrailer more.length bs s = .word .ztrl (leValue (bs ++ more)) (trailerTaken (bs ++ more) more.length rest s) := by
  induction more with
  | nil =>
    intro s bs rest _ _ hcont hq
    have hs : trailerTaken bs 0 rest s = s := by
      have hcount : s.infl.consumed + toWord 0 = s.infl.consumed := BitVec.add_zero _
      rw [trailerTaken, hcount, ← hcont, show rest = s.inq from hq.symm]
    rw [List.append_nil, List.length_nil, hs, fetchTrailer]
  | cons b more ih =>
    intro s bs rest hsrc hbr _ hq
    have hread : fetchTrailer (more.length + 1) bs s =
        fetchTrailer more.length (bs ++ [b]) (trailerTaken (bs ++ [b]) 1 (more ++ rest) s) := by
      rw [fetchTrailer, fetch_val (readByte_empty hsrc hbr hq), BitVec.ofNat_toNat, BitVec.setWidth_eq]
      rfl
    have hnext := ih (s := trailerTaken (bs ++ [b]) 1 (more ++ rest) s) (bs := bs ++ [b]) (rest := rest) hsrc hbr rfl rfl
    rw [trailerTaken_succ, List.append_assoc] at hnext
    exact hread.trans hnext

section Wrapper

variable {s : State} (hsrc : s.infl.src = .input) (hcont : s.infl.cont = .none)

include hsrc hcont

/-- CMF and FLG make one symbol. -/
theorem inflFetch_header (hph : s.infl.phase = .header) (hbr : s.br = ⟨0, 0⟩) {cmf flg : Byte} {rest : Bytes}
    (hq : s.inq = cmf :: flg :: rest) : inflFetch s = .word .zhdr (cmf.toNat + 256 * flg.toNat) { s with
      inq := rest, infl := { s.infl with consumed := s.infl.consumed + 1 + 1, cont := .zhdr cmf.toNat } } := by
  have hcursor : inflFetch s = (readBits 8 s).fetch fun cmf s => fetchFlg cmf (setCont (.zhdr cmf) s) := by
    simp only [inflFetch, hph, hcont]
  have hflg := readBits_byte (s := setCont (.zhdr cmf.toNat) { s with
    inq := flg :: rest, infl := { s.infl with consumed := s.infl.consumed + 1 } }) hsrc hbr rfl
  exact hcursor.trans ((fetch_val (readBits_byte hsrc hbr hq) _).trans (fetch_val hflg _))

/-- The bits of the byte begun are dropped, and the four bytes after it make one symbol. -/
theorem inflFetch_trailer (hph : s.infl.phase = .checksum) (hok : s.readerOk) (h7 : s.br.n ≤ 7) {a b c d : Byte}
    {rest : Bytes} (hq : s.inq = a :: b :: c :: d :: rest) : inflFetch s =
      .word .ztrl (leValue [a, b, c, d]) (trailerTaken [a, b, c, d] 4 rest { s with br := ⟨0, 0⟩ }) := by
  have hcursor : inflFetch s = fetchTrailer 4 [] (setCont (.trailer []) { s with br := ⟨0, 0⟩ }) := by
    simp only [inflFetch, hph, hcont, inflAlign_input hsrc hok h7]
  exact hcursor.trans (fetchTrailer_input [a, b, c, d] (s := setCont (.trailer []) { s with br := ⟨0, 0⟩ }) hsrc rfl rfl hq)

/-! ## Block headers (R455) -/

/-- BFINAL and BTYPE are the next three bits, here of the first byte of IN. -/
theorem inflFetch_blockHeader (hph : s.infl.phase = .blockHeader) (hbr : s.br = ⟨0, 0⟩) {x : Byte} {rest : Bytes}
    (hq : s.inq = x :: rest) : inflFetch s = .word .bhdr ((x.toNat % 2 == 1).toNat + 2 * (x.toNat / 2 % 4)) { s with
      br := ⟨BitVec.ofNat 32 (x.toNat / 8), 5⟩
      inq := rest
      infl := { s.infl with consumed := s.infl.consumed + 1, final := x.toNat % 2 == 1, cont := .btype } } := by
  have hok : s.readerOk := by simp [State.readerOk, hbr]
  have hheld : 8 ≤ bitsHeld s := by simp [bitsHeld, hq]; omega
  have hahead : bitsAhead s = x.toNat + 256 * leValue rest := by simp [bitsAhead, hbr, hq, leValue]
  have hx := x.isLt
  have hbit : bitsAhead s % 2 ^ 1 = x.toNat % 2 := by omega
  have htwo : bitsAhead s / 2 ^ 1 % 2 ^ 2 = x.toNat / 2 % 4 := by omega
  have hrest : bitsAhead s / 2 ^ 3 % 2 ^ 5 = x.toNat / 8 := by omega
  have hfinal := readBits_input (n := 1) hsrc hok (by decide) (by omega)
  have htype := readBits_readOff (s := { s with infl := { s.infl with final := x.toNat % 2 == 1, cont := .btype } })
    (m := 1) (n := 2) hok (by show _ ≤ bitsHeld s; omega) hsrc (by decide) (by show _ ≤ bitsHeld s; omega)
  rw [hbit] at hfinal
  calc inflFetch s
    _ = (readBits 1 s).fetch fun v s => fetchBtype { s with infl := { s.infl with final := v == 1, cont := .btype } } := by
      simp only [inflFetch, hph, fetchHeader, hcont]
    _ = fetchBtype (readOff 1 { s with infl := { s.infl with final := x.toNat % 2 == 1, cont := .btype } }) :=
      fetch_val hfinal _
    _ = .word .bhdr ((x.toNat % 2 == 1).toNat + 2 * (bitsAhead s / 2 ^ 1 % 2 ^ 2))
        (readOff 3 { s with infl := { s.infl with final := x.toNat % 2 == 1, cont := .btype } }) := fetch_val htype _
    _ = _ := by
      rw [htwo, readOff_eq (k := 1) (N := 5) (by simp [hbr]) (by simp [hbr])]
      show Fetch.word _ _ { s with
        br := ⟨BitVec.ofNat 32 (bitsAhead s / 2 ^ 3 % 2 ^ 5), 5⟩
        inq := s.inq.drop 1
        infl := _ } = _
      rw [hrest, hq]
      rfl

end Wrapper

/-! ## The symbols of the empty zlib stream -/

/-- The header 78 9C is one that R454 lets pass. -/
theorem runInfl_header {s : State} (hsrc : s.infl.src = .input) (hcont : s.infl.cont = .none) (hph : s.infl.phase = .header)
    (hbr : s.br = ⟨0, 0⟩) {rest : Bytes} (hq : s.inq = 0x78 :: 0x9C :: rest) : runInfl s = .ok { s with
      inq := rest, infl := { s.infl with consumed := s.infl.consumed + 1 + 1, phase := .blockHeader, cont := .none } } :=
  by
  have hd : decode .zhdr ((0x78 : Byte).toNat + 256 * (0x9C : Byte).toNat) = .ok (.zlibHeader 7 0x9C) := by decide
  refine (runInfl_word (inflFetch_header hsrc hcont hph hbr hq) hd).trans ?_
  show wireZlibHeader 7 0x9C _ = _
  rw [wireZlibHeader, if_neg (by decide), if_neg (by decide), if_neg (by decide)]
  rfl

/-- The fixed tables. -/
def fixedTables (s : State) : State := { s with d0 := ⟨fixedLL, true⟩, d1 := ⟨fixedD, true⟩ }

/-- A final fixed block, the five bits after its header 0 (R457). -/
theorem runInfl_blockFixed {s : State} (hsrc : s.infl.src = .input) (hcont : s.infl.cont = .none)
    (hph : s.infl.phase = .blockHeader) (hbr : s.br = ⟨0, 0⟩) {rest : Bytes} (hq : s.inq = 0x03 :: rest) :
    runInfl s = .ok (fixedTables { s with
      br := ⟨0, 5⟩
      inq := rest
      infl := { s.infl with
        consumed := s.infl.consumed + 1, final := true, btype := 1, phase := .huffmanDecode, cont := .none } }) :=
  runInfl_word (i := .blockFixed true) (inflFetch_blockHeader hsrc hcont hph hbr hq) rfl

/-- What Decode does from a length on is settled by the refill for it. -/
theorem decodeLoop_congr {len code ls : List Nat} {l : Nat} {b c : BitSrc} (h : b.refill l = c.refill l) :
    decodeLoop len code (l :: ls) b = decodeLoop len code (l :: ls) c := by
  simp only [decodeLoop, h]

set_option maxRecDepth 100000 in
/-- The fixed code of the end of block is seven bits 0, and no fixed code is shorter (R212). -/
theorem findSym_fixed_zero : (∀ l ≤ 6, 0 < l → findSym l (bitrev l 0) 0 fixedLL (canon fixedLL) = none) ∧
    findSym 7 (bitrev 7 0) 0 fixedLL (canon fixedLL) = some 256 := by
  decide

/-- With five bits 0 held and a byte 0 next, seven bits 0 are read. -/
theorem decodeSym_fixed_eob (bs : Bytes) : decodeSym fixedLL ⟨0, 5, 0 :: bs, 0⟩ = (.sym 256, ⟨0, 6, bs, 1⟩) := by
  obtain ⟨hshort, hseven⟩ := findSym_fixed_zero
  have hlow (l n p : Nat) (q : Bytes) : (⟨0, n, q, p⟩ : BitSrc).low l = 0 := Nat.zero_mod _
  have hrefill : BitSrc.refill 6 ⟨0, 5, 0 :: bs, 0⟩ = BitSrc.refill 6 ⟨0, 13, bs, 1⟩ := by
    simp only [BitSrc.refill, refillLoop]
    rfl
  have hheld : ∀ l ∈ [1, 2, 3, 4, 5], l ≤ 5 ∧ 0 < l := by decide
  calc decodeSym fixedLL ⟨0, 5, 0 :: bs, 0⟩
    _ = decodeLoop fixedLL (canon fixedLL) [6, 7, 8, 9, 10, 11, 12, 13, 14, 15] ⟨0, 5, 0 :: bs, 0⟩ :=
      decodeLoop_skip (pre := [1, 2, 3, 4, 5]) _ fun l hl =>
        ⟨(hheld l hl).1, by rw [hlow, hshort l ((hheld l hl).1.trans (by decide)) (hheld l hl).2]⟩
    _ = decodeLoop fixedLL (canon fixedLL) [6, 7, 8, 9, 10, 11, 12, 13, 14, 15] ⟨0, 13, bs, 1⟩ := decodeLoop_congr hrefill
    _ = decodeLoop fixedLL (canon fixedLL) [7, 8, 9, 10, 11, 12, 13, 14, 15] ⟨0, 13, bs, 1⟩ :=
      decodeLoop_none (show 6 ≤ 13 by decide) (by rw [hlow, hshort 6 (by decide) (by decide)]) _
    _ = (.sym 256, BitSrc.drop 7 ⟨0, 13, bs, 1⟩) :=
      decodeLoop_some (show 7 ≤ 13 by decide) (by rw [hlow, hseven]) _
    _ = (.sym 256, ⟨0, 6, bs, 1⟩) := by simp [BitSrc.drop]

theorem endOfBlock_checksum {s : State} (hfin : s.infl.final = true) (hwrap : s.infl.nowrap = false) :
    endOfBlock s = setInflPhase .checksum s := by
  simp only [endOfBlock, hfin, hwrap]
  rfl

theorem endOfBlock_done {s : State} (hfin : s.infl.final = true) (hwrap : s.infl.nowrap = true) :
    endOfBlock s = setInflPhase .done s := by
  simp only [endOfBlock, hfin, hwrap]
  rfl

/-- The end of the final block, two of its bits in the next byte (R453). -/
theorem runInfl_eob {s : State} (hsrc : s.infl.src = .input) (hcont : s.infl.cont = .none)
    (hph : s.infl.phase = .huffmanDecode) (hbr : s.br = ⟨0, 5⟩) {rest : Bytes} (hq : s.inq = 0 :: rest)
    (hd0 : s.d0 = ⟨fixedLL, true⟩) (hfin : s.infl.final = true) (hwrap : s.infl.nowrap = false) :
    runInfl s = .ok { s with
      br := ⟨0, 6⟩
      inq := rest
      infl := { s.infl with consumed := s.infl.consumed + 1, phase := .checksum, cont := .none } } := by
  obtain ⟨t, ht⟩ : ∃ t : State, t = { s with
    br := ⟨0, 6⟩, inq := rest, infl := { s.infl with consumed := s.infl.consumed + 1 } } := ⟨_, rfl⟩
  have hput : inflPut s ⟨0, 6, rest, 1⟩ = t := by
    rw [inflPut_input hsrc, ht]
    rfl
  have hsym : readSym s.d0 s = .val 256 t := by
    simp only [readSym, inflSrc_input hsrc, hbr, hq, hd0, decodeSym_fixed_eob, hput]
  have hcursor : inflFetch s = fetchLitlen s := by
    simp only [inflFetch, hph, fetchHuffman, hcont]
  have hword : inflFetch s = .word .litlen 256 t := by
    rw [hcursor, fetchLitlen, fetch_val hsym, if_neg (by decide)]
  have hend : endOfBlock t = setInflPhase .checksum t :=
    endOfBlock_checksum (by rw [ht]; exact hfin) (by rw [ht]; exact hwrap)
  have hd : decode .litlen 256 = .ok .eob := rfl
  refine (runInfl_word hword hd).trans ?_
  show Res.ok (endOfBlock t) = _
  rw [hend, ht]
  rfl

/-- The bits left of the byte begun, then the sum of no byte (R220, R463). -/
theorem runInfl_trailer {s : State} (hsrc : s.infl.src = .input) (hcont : s.infl.cont = .none)
    (hph : s.infl.phase = .checksum) (hbr : s.br = ⟨0, 6⟩) {rest : Bytes} (hq : s.inq = 0 :: 0 :: 0 :: 1 :: rest)
    (hadler : s.infl.adler = 1) : runInfl s = .ok { s with
      br := ⟨0, 0⟩
      inq := rest
      infl := { s.infl with consumed := s.infl.consumed + 4, trailer := 1, phase := .done, cont := .none } } := by
  have hok : s.readerOk := by simp [State.readerOk, hbr]
  have h7 : s.br.n ≤ 7 := by simp [hbr]
  rw [runInfl_word (i := .zlibTrailer 1) (inflFetch_trailer hsrc hcont hph hok h7 hq) rfl]
  exact if_neg (not_not.2 hadler.symm)

/-! ## The end of the command (R451, R452) -/

/-- In DONE the results are written and the command ends. -/
theorem drive_streamDone (k : Nat) {s : State} (ht : s.tasks = [.infl, .inflRes]) (hph : s.infl.phase = .done) :
    drive (k + 2) s = complete { s with
      res := ⟨toWord s.infl.total, s.infl.consumed, s.infl.adler, toWord s.br.n⟩ } := by
  have hdone : runInfl s = .ok { s with tasks := [.inflRes] } := by
    simp only [runInfl, inflFetch, hph, ht, List.tail_cons]
  rw [drive_ok ht hdone, drive_ok (t := .inflRes) rfl rfl, drive_nil rfl]
  rfl

/-- The command at a place of its stream. -/
def inflAt (q : Bytes) (b : Br) (i : Infl) (s : State) : State :=
  { s with inq := q, br := b, infl := i, tasks := [.infl, .inflRes] }

/-- From the header of the empty zlib stream to the end of the command. -/
theorem drive_emptyStream (k : Nat) (m : List Host.Cell) (rest : Bytes) (s : State) :
    drive (k + 6) (inflAt ([0x78, 0x9C, 0x03, 0x00, 0x00, 0x00, 0x00, 0x01] ++ rest) ⟨0, 0⟩
      { Infl.reset with owin := m, phase := .header } s) = complete { fixedTables s with
        inq := rest
        br := ⟨0, 0⟩
        infl := { Infl.reset with owin := m, phase := .done, final := true, btype := 1, trailer := 1, consumed := 8 }
        res := ⟨0, 8, 1, 0⟩ } := by
  calc drive (k + 6) (inflAt ([0x78, 0x9C, 0x03, 0x00, 0x00, 0x00, 0x00, 0x01] ++ rest) ⟨0, 0⟩
      { Infl.reset with owin := m, phase := .header } s)
    _ = drive (k + 5) (inflAt ([0x03, 0x00, 0x00, 0x00, 0x00, 0x01] ++ rest) ⟨0, 0⟩
        { Infl.reset with owin := m, phase := .blockHeader, consumed := 2 } s) :=
      drive_infl rfl (runInfl_header rfl rfl rfl rfl rfl)
    _ = drive (k + 4) (inflAt ([0x00, 0x00, 0x00, 0x00, 0x01] ++ rest) ⟨0, 5⟩
        { Infl.reset with owin := m, phase := .huffmanDecode, final := true, btype := 1, consumed := 3 } (fixedTables s)) :=
      drive_infl rfl (runInfl_blockFixed rfl rfl rfl rfl rfl)
    _ = drive (k + 3) (inflAt ([0x00, 0x00, 0x00, 0x01] ++ rest) ⟨0, 6⟩
        { Infl.reset with owin := m, phase := .checksum, final := true, btype := 1, consumed := 4 } (fixedTables s)) :=
      drive_infl rfl (runInfl_eob rfl rfl rfl rfl rfl rfl rfl rfl)
    _ = drive (k + 2) (inflAt rest ⟨0, 0⟩
        { Infl.reset with owin := m, phase := .done, final := true, btype := 1, trailer := 1, consumed := 8 } (fixedTables s)) :=
      drive_infl rfl (runInfl_trailer rfl rfl rfl rfl rfl rfl)
    _ = _ := drive_streamDone k rfl rfl

/-! ## A stored block (R456) -/

/-- The state after one byte of the copy, q what IN still holds. -/
def storedStep (b : Byte) (q : Bytes) (s : State) : State :=
  { outputCounted b { s with
      inq := q, infl := { s.infl with consumed := s.infl.consumed + 1, storedRem := s.infl.storedRem - 1 } } with
    outq := s.outq ++ [b] }

/-- The state after the copy of all of the block's bytes. -/
def storedCopied (data rest : Bytes) (s : State) : State :=
  { s with
    inq := rest
    outq := s.outq ++ data
    infl := { s.infl with
      owin := cellPut s.infl.owin s.infl.owpos.toNat data
      owpos := s.infl.owpos + BitVec.ofNat 16 data.length
      total := s.infl.total + data.length
      storedRem := 0
      adler := adler s.infl.adler data
      consumed := s.infl.consumed + toWord data.length } }

/-- A stored block is being copied, data its bytes still to go: they are ahead in IN, OUT has room for them, and they end before
the write place of OWIN goes round. -/
structure CopyingStored (data rest : Bytes) (s : State) : Prop where
  src : s.infl.src = .input
  phase : s.infl.phase = .storedCopy
  reader : s.br = ⟨0, 0⟩
  inq : s.inq = data ++ rest
  rem : s.infl.storedRem = data.length
  room : outRoom s data.length = data.length
  place : s.infl.owpos.toNat + data.length < 65536

theorem CopyingStored.run {b : Byte} {data rest : Bytes} {s : State} (h : CopyingStored (b :: data) rest s) :
    runInfl s = .ok (storedStep b (data ++ rest) s) := by
  have hrem : s.infl.storedRem ≠ 0 := by rw [h.rem]; exact Nat.succ_ne_zero _
  rw [runInfl_storedCopy h.phase, storedByte, if_neg hrem, readByte_empty h.src h.reader h.inq, Got.bind,
    BitVec.ofNat_toNat, BitVec.setWidth_eq]
  exact output_room h.src (outRoom_mono (Nat.le_add_left 1 _) h.room)

theorem CopyingStored.owpos_succ {b : Byte} {data rest : Bytes} {s : State} (h : CopyingStored (b :: data) rest s) :
    (s.infl.owpos + 1).toNat = s.infl.owpos.toNat + 1 := by
  have hplace := h.place
  rw [List.length_cons] at hplace
  refine (BitVec.toNat_add s.infl.owpos 1).trans (Nat.mod_eq_of_lt ?_)
  show s.infl.owpos.toNat + 1 < 65536
  omega

theorem CopyingStored.step {b : Byte} {data rest : Bytes} {s : State} (h : CopyingStored (b :: data) rest s) :
    CopyingStored data rest (storedStep b (data ++ rest) s) where
  src := h.src
  phase := h.phase
  reader := h.reader
  inq := rfl
  rem := congrArg (· - 1) h.rem
  room := outRoom_push h.room b
  place := by
    have hplace := h.place
    show (s.infl.owpos + 1).toNat + data.length < 65536
    rw [h.owpos_succ]
    rw [List.length_cons] at hplace
    omega

theorem storedCopied_nil {rest : Bytes} {s : State} (h : CopyingStored [] rest s) : storedCopied [] rest s = s := by
  have hrem : 0 = s.infl.storedRem := h.rem.symm
  have hq : rest = s.inq := h.inq.symm
  have hwords : s.infl.owpos + BitVec.ofNat 16 0 = s.infl.owpos ∧ s.infl.consumed + toWord 0 = s.infl.consumed :=
    ⟨BitVec.add_zero _, BitVec.add_zero _⟩
  simp only [storedCopied, List.append_nil, adler_nil, List.length_nil, hwords, Nat.add_zero, cellPut, hq]
  rw [hrem]

theorem storedCopied_cons {b : Byte} {data rest : Bytes} {s : State} (h : CopyingStored (b :: data) rest s) :
    storedCopied data rest (storedStep b (data ++ rest) s) = storedCopied (b :: data) rest s := by
  have hpos : s.infl.owpos + BitVec.ofNat 16 (data.length + 1) = s.infl.owpos + 1 + BitVec.ofNat 16 data.length := by
    rw [Nat.add_comm, BitVec.ofNat_add, ← BitVec.add_assoc]
    rfl
  have hcount : s.infl.consumed + toWord (data.length + 1) = s.infl.consumed + 1 + toWord data.length := by
    rw [toWord, Nat.add_comm, BitVec.ofNat_add, ← BitVec.add_assoc]
    rfl
  have htotal : s.infl.total + (data.length + 1) = s.infl.total + 1 + data.length := by omega
  rw [storedCopied, storedCopied, List.length_cons, hpos, hcount, htotal, List.append_cons, adler_cons, cellPut,
    ← h.owpos_succ]
  rfl

/-- The copy takes one task for each byte. -/
theorem drive_storedCopy (k : Nat) {ts : List Task} {data rest : Bytes} : ∀ {s : State}, CopyingStored data rest s →
    s.tasks = .infl :: ts → drive (k + data.length) s = drive k (storedCopied data rest s) := by
  induction data with
  | nil =>
    intro s h _
    rw [storedCopied_nil h]
    rfl
  | cons b data ih =>
    intro s h ht
    calc drive (k + data.length + 1) s
      _ = drive (k + data.length) (storedStep b (data ++ rest) s) := drive_infl ht h.run
      _ = drive k (storedCopied data rest (storedStep b (data ++ rest) s)) := ih h.step ht
      _ = drive k (storedCopied (b :: data) rest s) := by rw [storedCopied_cons h]

theorem wireStored_input {s : State} {fin : Bool} {a b c d : Byte} {rest : Bytes} (hsrc : s.infl.src = .input)
    (hok : s.readerOk) (h7 : s.br.n ≤ 7) (hq : s.inq = a :: b :: c :: d :: rest) :
    wireStored fin s = storedHeader 0 [a, b, c, d] (headerTaken [a, b, c, d] 4 rest (setBlock fin 0 s)) := by
  rw [wireStored, inflAlign_input (s := setBlock fin 0 s) hsrc hok h7]
  exact storedHeader_input [a, b, c, d] (s := setCont (.stored []) { setBlock fin 0 s with br := ⟨0, 0⟩ }) hsrc rfl rfl hq

/-- The header of a final stored block whose NLEN is the complement of LEN (R455, R456). -/
theorem runInfl_blockStored {s : State} (hsrc : s.infl.src = .input) (hcont : s.infl.cont = .none)
    (hph : s.infl.phase = .blockHeader) (hbr : s.br = ⟨0, 0⟩) {a b c d : Byte} {rest : Bytes}
    (hq : s.inq = 0x01 :: a :: b :: c :: d :: rest) {n : Nat} (hlen : a.toNat + 256 * b.toNat = n)
    (hnlen : c.toNat + 256 * d.toNat = 65535 - n) (hn : n ≤ 65535) : runInfl s = .ok { s with
      br := ⟨0, 0⟩
      inq := rest
      infl := { s.infl with
        consumed := s.infl.consumed + 1 + 4
        final := true
        btype := 0
        phase := .storedCopy
        cont := .none
        storedRem := n } } := by
  have hd : decode .bhdr (true.toNat + 2 * ((0x01 : Byte).toNat / 2 % 4)) = .ok (.blockStored true) := rfl
  subst hlen
  refine (runInfl_word (inflFetch_blockHeader hsrc hcont hph hbr hq) hd).trans ?_
  refine (wireStored_input (fin := true) ?_ ?_ ?_ rfl).trans ?_
  · exact hsrc
  · show 5 < 32 ∧ (0 : Word).toNat < 2 ^ 5
    decide
  · show 5 ≤ 7
    decide
  · rw [storedHeader_checked, if_neg (by omega)]
    rfl

/-- With all bytes of the final block copied the stream is done (R456, R453). -/
theorem runInfl_storedEnd {s : State} (hph : s.infl.phase = .storedCopy) (hrem : s.infl.storedRem = 0)
    (hfin : s.infl.final = true) (hwrap : s.infl.nowrap = true) : runInfl s = .ok (setInflPhase .done s) := by
  rw [runInfl_storedCopy hph, storedByte, if_pos hrem, endOfBlock_done hfin hwrap]

theorem le16_toNat {n : Nat} (hn : n ≤ 65535) :
    (BitVec.ofNat 8 n).toNat + 256 * (BitVec.ofNat 8 (n / 256)).toNat = n := by
  rw [BitVec.toNat_ofNat, BitVec.toNat_ofNat]
  omega

/-- The first byte of a final stored block with its LEN and NLEN, in front of its data. -/
theorem storedStream_eq (n : Nat) (data rest : Bytes) : [0x01] ++ le16 n ++ le16 (65535 - n) ++ data ++ rest =
    0x01 :: BitVec.ofNat 8 n :: BitVec.ofNat 8 (n / 256) :: BitVec.ofNat 8 (65535 - n) ::
      BitVec.ofNat 8 ((65535 - n) / 256) :: (data ++ rest) := by
  simp only [le16, List.cons_append, List.nil_append]

/-- The command behind the header of a raw final stored block, at the stream's start; m is OWIN. -/
def storedBegun (m : List Host.Cell) (data rest : Bytes) (s : State) : State :=
  inflAt (data ++ rest) ⟨0, 0⟩ { Infl.reset with
    owin := m, nowrap := true, phase := .storedCopy, final := true, storedRem := data.length, consumed := 5 } s

/-- The command at the end of that block's stream. -/
def storedEnded (m : List Host.Cell) (data rest : Bytes) (s : State) : State :=
  { s with
    inq := rest
    outq := s.outq ++ data
    br := ⟨0, 0⟩
    infl := { Infl.reset with
      nowrap := true
      owin := cellPut m 0 data
      owpos := BitVec.ofNat 16 data.length
      total := data.length
      phase := .done
      final := true
      adler := adler 1 data
      consumed := BitVec.ofNat 32 (5 + data.length) }
    tasks := [.infl, .inflRes] }

section StoredStream

variable (k : Nat) (m : List Host.Cell) (data rest : Bytes) (s : State)

theorem storedBegun_done : setInflPhase .done (storedCopied data rest (storedBegun m data rest s)) =
    storedEnded m data rest s := by
  have hpos : (0 : BitVec 16) + BitVec.ofNat 16 data.length = BitVec.ofNat 16 data.length := BitVec.zero_add _
  have hcount : (5 : Word) + toWord data.length = BitVec.ofNat 32 (5 + data.length) := (BitVec.ofNat_add 5 data.length).symm
  simp only [storedBegun, storedEnded, storedCopied, inflAt, Infl.reset, setInflPhase, Nat.zero_add, hpos, hcount]
  rfl

/-- From the header of a raw final stored block to the end of the command. -/
theorem drive_storedStream (hlen : data.length ≤ 65535) (hroom : outRoom s data.length = data.length) :
    drive (k + (3 + data.length + 1))
      (inflAt ([0x01] ++ le16 data.length ++ le16 (65535 - data.length) ++ data ++ rest) ⟨0, 0⟩
        { Infl.reset with owin := m, nowrap := true, phase := .blockHeader } s) = complete { storedEnded m data rest s with
      res := ⟨BitVec.ofNat 32 data.length, BitVec.ofNat 32 (5 + data.length), adler 1 data, 0⟩ } := by
  have hcopying : CopyingStored data rest (storedBegun m data rest s) :=
    ⟨rfl, rfl, rfl, rfl, rfl, hroom, by show 0 + data.length < 65536; omega⟩
  have htasks : k + (3 + data.length + 1) = k + 3 + data.length + 1 := by omega
  rw [storedStream_eq, htasks]
  calc drive (k + 3 + data.length + 1) _
    _ = drive (k + 3 + data.length) (storedBegun m data rest s) :=
      drive_infl rfl (runInfl_blockStored rfl rfl rfl rfl rfl (le16_toNat hlen) (le16_toNat (Nat.sub_le _ _)) hlen)
    _ = drive (k + 3) (storedCopied data rest (storedBegun m data rest s)) := drive_storedCopy _ hcopying rfl
    _ = drive (k + 2) (storedEnded m data rest s) := by
      rw [← storedBegun_done]
      exact drive_infl rfl (runInfl_storedEnd rfl rfl rfl rfl)
    _ = _ := drive_streamDone k rfl rfl

end StoredStream

/-! ## INFL_RUN and DECOMPRESS (R451, R452) -/

theorem exec_decompress (s : State) : exec .decompress s = .next (run (inflAt s.inq ⟨0, 0⟩ { Infl.reset with
    owin := s.infl.owin
    nowrap := ctrlNowrap s
    phase := if ctrlNowrap s = true then .blockHeader else .header } s)) := by
  show execDecompress s = _
  exact launch_ok rfl

theorem exec_inflRun_header {s : State} (hph : s.infl.phase = .header) :
    exec .inflRun s = .next (run { s with tasks := [.infl, .inflRes] }) := by
  show execInflRun s = _
  rw [execInflRun]
  refine launch_ok ?_
  simp only [begun_infl, hph]
  rfl

theorem exec_inflRun_done {s : State} (hph : s.infl.phase = .done) :
    exec .inflRun s = .next (raiseErr .streamFinished 0x91 s) := by
  show execInflRun s = _
  rw [execInflRun]
  refine launch_refuse (opc := 0x91) ?_
  simp only [begun_infl, hph]
  rfl

theorem exec_inflRun_idle {s : State} (hph : s.infl.phase = .idle ∨ s.infl.phase = .error) :
    exec .inflRun s = .next (raiseErr .notReady 0x91 s) := by
  show execInflRun s = _
  rw [execInflRun]
  refine launch_refuse (opc := 0x91) ?_
  rcases hph with hph | hph <;> simp only [begun_infl, hph] <;> rfl

/-- A place is a state's own where its fields are. -/
theorem inflAt_self {s : State} {q : Bytes} {b : Br} {i : Infl} (hq : s.inq = q) (hbr : s.br = b) (hi : s.infl = i) :
    inflAt q b i s = { s with tasks := [.infl, .inflRes] } := by
  subst hq hbr hi
  rfl

/-- Settles O38: each stream symbol by symbol to the results, the stored bytes one task each. -/
theorem decompressorResetAndStreams : Obligations.DecompressorResetAndStreams := by
  refine ⟨fun s => rfl, fun s rest hq => ⟨fun hwrap => ?_, fun hbr hinfl => ?_⟩, fun s data rest hlen hwrap hq hroom => ?_,
    fun s => exec_inflRun_done, fun s => exec_inflRun_idle⟩
  · rw [exec_decompress, hq, hwrap, run_eq_within (m := 6) (by decide)]
    exact congrArg _ (drive_emptyStream _ s.infl.owin rest s)
  · have hph : s.infl.phase = .header := by rw [hinfl]
    rw [exec_inflRun_header hph, ← inflAt_self hq hbr hinfl, run_eq_within (m := 6) (by decide)]
    exact congrArg _ (drive_emptyStream _ s.infl.owin rest s)
  · have hm : 3 + data.length + 1 ≤ 65635 := by omega
    rw [exec_decompress, hq, hwrap, run_eq_within hm]
    exact congrArg _ (drive_storedStream _ s.infl.owin data rest s hlen hroom)

end Sys2Proof.Machine
end

section
/-! PROOFS. ZIP_NEW, ZIP_CLOSE and ZIP_INFO (48_zip_container.md R501, R511, R512), and the state after hardware reset
(70_reset_and_hazards.md R700, R701). -/

namespace Sys2Proof.Machine

/-! ## Commands on the whole archive -/

/-- Settles O46: a level above 9 is the only refusal. -/
theorem archiveNewCloseAndInfo : Obligations.ArchiveNewCloseAndInfo := by
  refine fun s => ⟨fun hlevel => ?_, fun hlevel => ?_, rfl, ?_⟩
  · show execZipNew s = _
    refine finish_ok (t := { begun s with zip := { s.zip with entries := [], defLevel := ctrlLevel s, isOpen := true } }) ?_
    show guardErr (decide (9 < ctrlLevel s)) .badArg 0xA0 (begun s) _ = _
    rw [decide_eq_false (Nat.not_lt.2 hlevel), guardErr_false]
    rfl
  · show execZipNew s = _
    refine finish_refuse ?_
    show guardErr (decide (9 < ctrlLevel s)) .badArg 0xA0 (begun s) _ = _
    rw [decide_eq_true hlevel, guardErr_true]
  · have hopen : (if s.zip.isOpen = true then 1 else 0) = toWord s.zip.isOpen.toNat := by cases s.zip.isOpen <;> rfl
    rw [hopen]
    rfl

/-! ## Reset -/

/-- A hardware reset is taken whenever the engine does not move, a hold included (R701). -/
theorem step_hwReset {s : State} {rest : List HostAct} (hm : engineMoves s = false) (hh : s.host = .hwReset :: rest) :
    step s = .next (hardReset { s with host := rest }) := step_of_hostAct hm hh rfl

/-- Settles O10: the reset state's elements one by one, and the step of the reset. -/
theorem resetValues : Obligations.ResetValues := by
  have htrees : ∀ t : Sel, getTree State.reset t = HTree.reset t.nsym := by
    intro t
    cases t <;> rfl
  have htables : ∀ t : Sel, getTable State.reset t = DTable.reset := by
    intro t
    cases t <;> rfl
  refine ⟨⟨rfl, rfl, rfl, rfl, rfl, rfl, rfl, rfl, rfl, rfl, rfl, rfl, rfl, rfl, rfl, rfl, fun _ => rfl, fun _ => rfl, rfl,
    rfl, rfl, rfl, rfl, rfl, rfl, rfl, rfl, htrees, rfl, rfl, rfl, rfl, rfl, rfl, rfl, rfl, rfl, rfl, rfl, rfl, rfl, rfl, rfl,
    rfl, rfl, htables, rfl, rfl, rfl, rfl, rfl, rfl, rfl, rfl⟩, fun s rest => step_hwReset⟩

/-- Settles O60: what each invariant's proof already says of the reset values. -/
theorem resetStateMeetsTheInvariants : Obligations.ResetStateMeetsTheInvariants :=
  ⟨reset_memory_wf, reset_reader_bounded, buffersOk_hardReset State.reset, fun _ => ⟨rfl, rfl⟩, reset_names_distinct⟩

end Sys2Proof.Machine
end

section
/-! PROOFS. The refusals that come before a command's own checks (60_exceptions.md R603, R615, R616): the units it needs idle, the
archive it needs open and the entry it needs, by its opcode. -/

namespace Sys2Proof.Machine

/-! ## What an opcode needs (R615) -/

/-- The opcodes that need the compressor idle. -/
def needsCompressor (opc : Nat) : Bool :=
  decide ((0x30 ≤ opc ∧ opc ≤ 0x36) ∨ (0x50 ≤ opc ∧ opc ≤ 0x59) ∨ (0x70 ≤ opc ∧ opc ≤ 0x73) ∨ opc = 0xAC)

/-- The opcodes that need the decompressor idle. -/
def needsDecompressor (opc : Nat) : Bool :=
  decide ((0x40 ≤ opc ∧ opc ≤ 0x42) ∨ (0x60 ≤ opc ∧ opc ≤ 0x68) ∨ opc = 0xA8 ∨ opc = 0xAB ∨ opc = 0xAC)

/-- The opcodes that need an open archive. -/
def needsArchive (opc : Nat) : Bool := decide (0xA2 ≤ opc ∧ opc ≤ 0xAC)

/-- The opcodes that need the entry whose index is in ARG0. -/
def needsItem (opc : Nat) : Bool :=
  decide (opc = 0xA5 ∨ opc = 0xA6 ∨ opc = 0xA8 ∨ opc = 0xA9 ∨ opc = 0xAA ∨ opc = 0xAB)

/-- These needs checked in R615's order, then the rest r of the pseudocode. -/
def checked (opc : Nat) (s : State) (r : Res) : Res :=
  guardErr (needsCompressor opc && s.defl.phase.active) .unitBusy opc s <|
  guardErr (needsDecompressor opc && s.infl.phase.active) .unitBusy opc s <|
  guardErr (needsArchive opc && !s.zip.isOpen) .archiveClosed opc s <|
  guardErr (needsItem opc && decide (s.zip.entries.length ≤ s.lat.r0.toNat)) .noSuchItem opc s r

/-! ## Each command begins with the checks of its opcode -/

/-- The command's pseudocode begins with the checks of this opcode. -/
def ChecksFirst (i : Instr) (opc : Nat) (s : State) : Prop :=
  ∃ f r, (exec i s = finish f s ∨ exec i s = launch f s) ∧ f (begun s) = checked opc (begun s) r

theorem finish_checksFirst {i : Instr} {opc : Nat} {s : State} {f : State → Res} {r : Res} (he : exec i s = finish f s)
    (hf : f (begun s) = checked opc (begun s) r) : ChecksFirst i opc s := ⟨f, r, .inl he, hf⟩

theorem launch_checksFirst {i : Instr} {opc : Nat} {s : State} {f : State → Res} {r : Res} (he : exec i s = launch f s)
    (hf : f (begun s) = checked opc (begun s) r) : ChecksFirst i opc s := ⟨f, r, .inr he, hf⟩

/-- Item(i) looks at the number of entries first. -/
theorem zipItem_eq_guard (opc i : Nat) (s : State) (f : Entry → Res) : zipItem opc i s f =
    guardErr (decide (s.zip.entries.length ≤ i)) .noSuchItem opc s (zipItem opc i s f) := by
  by_cases h : s.zip.entries.length ≤ i
  · rw [decide_eq_true h, guardErr_true, zipItem, List.getElem?_eq_none h]
  · rw [decide_eq_false h, guardErr_false]

theorem zipOpened_zipItem (opc i : Nat) (s : State) (f : Entry → Res) : zipOpened opc s (zipItem opc i s f) =
    zipOpened opc s (guardErr (decide (s.zip.entries.length ≤ i)) .noSuchItem opc s (zipItem opc i s f)) := by
  rw [← zipItem_eq_guard]

theorem cmdWord_opc (opc : Nat) (n : BitVec 8) (imm : BitVec 16) : (cmdWord opc n imm).2 % 256 = opc % 256 := by
  simp only [cmdWord]
  omega

/-- With the opcode known its needs are known, and what is left of the checks is the command's own prologue. -/
theorem exec_checksFirst {i : Instr} (s : State) (hi : (encode i).1 = .cmd) : ChecksFirst i ((encode i).2 % 256) s := by
  cases i
  case nop | reset | adlerInit | adlerUpdate | crcInit | crcUpdate | hencReset | hencRecord | hencBuildTree | hencBuildCodes |
      hencEstimate | hencQuery | hdecBuild | hdecBuildFixed | hdecDecode | bwReset | bwStatus | brPeek | brSkip | brRead16Le |
      brRead16Be | brRead32Le | brRead32Be | brAlign | brReset | brAvail | lzReset | lzLoad | lzFind | lzAdvance | deflReset |
      inflReset | zipNew | zipAddItem | zipAddFile | zipAddDir | zipFind | zipClose | zipInfo =>
    rw [encode, cmdWord_opc]
    exact finish_checksFirst (by rw [exec]; rfl) rfl
  case hencEncode | bwWriteBits | bwAlign | bwWriteBytes | bwWriteShortLe | bwWriteShortBe | bwWriteIntLe | bwWriteIntBe |
      bwFlush | deflInput | deflFinish | compress | inflRun | decompress | zipOpen | zipSave =>
    rw [encode, cmdWord_opc]
    exact launch_checksFirst (by rw [exec]; rfl) rfl
  case zipUpdate | zipRemove | zipItemInfo =>
    rw [encode, cmdWord_opc]
    exact finish_checksFirst (by rw [exec]; rfl) (zipOpened_zipItem _ _ _ _)
  case zipItemName =>
    rw [encode, cmdWord_opc]
    exact launch_checksFirst (by rw [exec]; rfl) (zipOpened_zipItem _ _ _ _)
  case zipItemData | zipSetItemLevel =>
    rw [encode, cmdWord_opc]
    exact launch_checksFirst (by rw [exec]; rfl) (congrArg (inflFree _ _) (zipOpened_zipItem _ _ _ _))
  all_goals cases hi

/-- A check that fails is the command's outcome, the state as the command began. -/
theorem exec_refused {i : Instr} {s : State} {e : Err} (hi : (encode i).1 = .cmd)
    (h : ∀ r, checked ((encode i).2 % 256) (begun s) r = refuse e ((encode i).2 % 256) (begun s)) :
    exec i s = .next (raiseErr e (BitVec.ofNat 32 ((encode i).2 % 256)) s) := by
  obtain ⟨f, r, he | he, hf⟩ := exec_checksFirst s hi
  · exact he.trans (finish_refuse (hf.trans (h r)))
  · exact he.trans (launch_refuse (hf.trans (h r)))

/-! ## The check that fails -/

section Failing

variable {opc : Nat} {s : State} {r : Res}

theorem checked_compressorBusy (hbusy : s.defl.phase.active = true) (hneeds : needsCompressor opc = true) :
    checked opc s r = refuse .unitBusy opc s := by
  rw [checked, hneeds, hbusy]
  rfl

theorem checked_decompressorBusy (hbusy : s.infl.phase.active = true) (hneeds : needsDecompressor opc = true) :
    checked opc s r = refuse .unitBusy opc s := by
  rw [checked, hneeds, hbusy]
  cases needsCompressor opc && s.defl.phase.active <;> rfl

variable (hdefl : (needsCompressor opc && s.defl.phase.active) = false)
  (hinfl : (needsDecompressor opc && s.infl.phase.active) = false)

include hdefl hinfl

theorem checked_archiveClosed (hclosed : s.zip.isOpen = false) (hneeds : needsArchive opc = true) :
    checked opc s r = refuse .archiveClosed opc s := by
  rw [checked, hdefl, hinfl, hneeds, hclosed]
  rfl

theorem checked_noSuchItem (hopen : s.zip.isOpen = true) (hneeds : needsItem opc = true)
    (habsent : s.zip.entries.length ≤ s.lat.r0.toNat) : checked opc s r = refuse .noSuchItem opc s := by
  rw [checked, hdefl, hinfl, hneeds, hopen, decide_eq_true habsent, Bool.not_true, Bool.and_false]
  rfl

end Failing

/-- Settles O54: the first check in R615's order that fails, by what the opcode needs. -/
theorem busyUnitsAndClosedArchivesRefuse : Obligations.BusyUnitsAndClosedArchivesRefuse := by
  refine fun i s hi => ⟨fun hbusy hopc => exec_refused hi fun r => ?_, fun hbusy hopc => exec_refused hi fun r => ?_,
    fun hclosed hlow hhigh hinfl hdefl => exec_refused hi fun r => ?_,
    fun hopen hidle hopc habsent => exec_refused hi fun r => ?_⟩ <;> generalize (encode i).2 % 256 = opc at *
  · exact checked_compressorBusy (s := begun s) hbusy (decide_eq_true hopc)
  · exact checked_decompressorBusy (s := begun s) hbusy (decide_eq_true hopc)
  · refine checked_archiveClosed (s := begun s) ?_ ?_ hclosed (decide_eq_true ⟨hlow, hhigh⟩)
    · obtain hidle | hne := hdefl
      · rw [begun_defl, hidle, Bool.and_false]
      · rw [needsCompressor, decide_eq_false (by omega), Bool.false_and]
    · obtain hidle | hne := hinfl
      · rw [begun_infl, hidle, Bool.and_false]
      · rw [needsDecompressor, decide_eq_false (by omega), Bool.false_and]
  · refine checked_noSuchItem (s := begun s) ?_ ?_ hopen (decide_eq_true hopc) habsent
    · rw [needsCompressor, decide_eq_false (by omega), Bool.false_and]
    · rw [begun_infl, hidle, Bool.and_false]

end Sys2Proof.Machine
end

section
/-! PROOFS. ZIP_OPEN of the empty archive (48_zip_container.md R520-R522), and ZIP_SAVE of no entry and of one stored entry
(R540-R545). -/

namespace Sys2Proof.Machine

/-! ## The parse of ZIP_OPEN (R520-R522) -/

theorem drive_zipParse {k : Nat} {s s1 : State} {ts : List Task} (ht : s.tasks = .zipParse :: ts)
    (h : runZipParse s = .ok s1) : drive (k + 1) s = drive k s1 := drive_ok ht h

theorem runZipParse_scan {s : State} {p : Nat} (hc : s.zip.cont = .scan) (hp : findEocd s.zip.source = some p) :
    runZipParse s = .ok (setZipCont (.eocd p) s) := by
  simp only [runZipParse, zipFetch, hc, hp]

/-- The end record's signature at the cursor. -/
theorem runZipParse_eocd {s : State} {p : Nat} (hc : s.zip.cont = .eocd p) (hin : p + 4 ≤ s.zip.source.length)
    (hsig : rdLE s.zip.source p 4 = 0x06054B50) : runZipParse s = wireEnd s := by
  have hd : decode .eocd 0x06054B50 = .ok .zipEndRecord := rfl
  simp only [runZipParse, zipFetch, hc, fetchRecord_word hin, hsig, hd]
  rfl

/-- No directory record is left. -/
theorem runZipParse_end {s : State} {q : Nat} (hc : s.zip.cont = .dir q 0) :
    runZipParse s = .ok (zipOpened2 { s with tasks := s.tasks.tail }) := by
  simp only [runZipParse, zipFetch, hc]

/-- ZIP_OPEN at a place of its image, the list of entries still empty. -/
def openingAt (img : Bytes) (c : ZipCont) (s : State) : State :=
  { s with
    inq := []
    zip := { s.zip with entries := [], isOpen := false, source := img, list := [], cont := c }
    tasks := [.zipParse] }

theorem exec_zipOpen_ended {s : State} (hlevel : ctrlLevel s ≤ 9) (hend : s.inEnd = true) :
    exec .zipOpen s = .next (run (openingAt s.inq .scan s)) := by
  show execZipOpen s = _
  refine launch_ok ?_
  show guardErr (decide (9 < ctrlLevel s)) .badArg 0xA1 (begun s) (if s.inEnd = true then _ else _) = _
  rw [decide_eq_false (Nat.not_lt.2 hlevel), guardErr_false, if_pos hend]
  rfl

theorem exec_zipOpen_hold {s : State} (hlevel : ctrlLevel s ≤ 9) (hend : s.inEnd = false) : exec .zipOpen s = .next { s with
    wait := .inEnd, tasks := [], zip := { s.zip with entries := [], isOpen := false } } := by
  show execZipOpen s = _
  refine launch_hold (t := { begun s with zip := { s.zip with entries := [], isOpen := false } }) ?_
  show guardErr (decide (9 < ctrlLevel s)) .badArg 0xA1 (begun s) (if s.inEnd = true then _ else _) = _
  rw [decide_eq_false (Nat.not_lt.2 hlevel), guardErr_false, if_neg (by rw [hend]; decide)]
  rfl

/-- The end record of an empty archive: at offset 0, with no directory. -/
theorem endRecord_empty : findEocd (endRecord 0 0 0) = some 0 ∧ rdLE (endRecord 0 0 0) 0 4 = 0x06054B50 ∧
    4 ≤ (endRecord 0 0 0).length ∧ (rdLE (endRecord 0 0 0) 4 2 = 0 ∧ rdLE (endRecord 0 0 0) 6 2 = 0 ∧
      rdLE (endRecord 0 0 0) 8 2 = rdLE (endRecord 0 0 0) 10 2) := by decide

/-- Scan, end record, and no directory record. -/
theorem drive_openEmpty (k : Nat) (s : State) : drive (k + 3) (openingAt (endRecord 0 0 0) .scan s) = complete { s with
    inq := []
    zip := { s.zip with
      entries := [], defLevel := ctrlLevel s, isOpen := true, source := [], cont := .idle, list := [] }
    res := { s.res with r0 := 0 } } := by
  obtain ⟨hfind, hsig, hroom, hsingle⟩ := endRecord_empty
  calc drive (k + 3) (openingAt (endRecord 0 0 0) .scan s)
    _ = drive (k + 2) (openingAt (endRecord 0 0 0) (.eocd 0) s) := drive_zipParse rfl (runZipParse_scan rfl hfind)
    _ = drive (k + 1) (openingAt (endRecord 0 0 0) (.dir 0 0) s) :=
      drive_zipParse rfl ((runZipParse_eocd (s := openingAt (endRecord 0 0 0) (.eocd 0) s) rfl hroom hsig).trans
        (wireEnd_single (s := openingAt (endRecord 0 0 0) (.eocd 0) s) rfl hsingle))
    _ = _ := (drive_zipParse rfl (runZipParse_end rfl)).trans (drive_nil rfl)

/-! ## The image that ZIP_SAVE writes (R542-R544) -/

theorem localHeader_length (e : Entry) (m : Nat) : (localHeader e m).length = 30 + e.name.length := by
  simp only [localHeader, le16, le32, List.length_append, List.length_cons, List.length_nil]

theorem centralRecord_length (r : Entry × Nat) : (centralRecord r).length = 46 + r.1.name.length := by
  simp only [centralRecord, le16, le32, List.length_append, List.length_cons, List.length_nil]

theorem endRecord_length (n cds cdo : Nat) : (endRecord n cds cdo).length = 22 := rfl

/-- An entry as ZIP_SAVE leaves it, its data stored at offset lo of the image (R542). -/
def storedAt (lo : Nat) (e : Entry) : Entry :=
  { e with
    crc := crc 0 e.payload
    csize := toWord e.payload.length
    usize := toWord e.payload.length
    loff := toWord lo }

/-! ## ZIP_SAVE (R540-R545) -/

/-- ZIP_SAVE before its next entry: what SINK holds, the entries still to write and those written. -/
def savingAt (sink : Bytes) (work : List Entry) (recs : List (Entry × Nat)) (s : State) : State :=
  { s with
    zip := { s.zip with sink := sink, recs := recs, packed := [], work := work, saving := true }
    tasks := [.saveItem] }

theorem exec_zipSave {s : State} (hopen : s.zip.isOpen = true) (hdefl : s.defl.phase.active = false)
    (hinfl : s.infl.phase.active = false) (hlen : s.zip.entries.length ≤ 65535) :
    exec .zipSave s = .next (run (savingAt [] s.zip.entries [] s)) := by
  show execZipSave s = _
  refine launch_ok ?_
  rw [deflFree_ok (s := begun s) hdefl, inflFree_ok (s := begun s) hinfl, zipOpened_ok (s := begun s) hopen]
  exact if_neg (Nat.not_lt.2 hlen)

theorem runSaveItem_stored {s : State} {e : Entry} {rest : List Entry} (hwork : s.zip.work = e :: rest)
    (hplain : e.pcomp = false) (hmethod : e.method = 0) (hdata : e.payload.length ≤ 4294967295) :
    runSaveItem s = writeLocal 0 e.payload e rest s := by
  have hstored : ¬ (e.method = 8 ∧ e.payload ≠ []) := by simp [hmethod]
  simp only [runSaveItem, hwork, hplain, Bool.false_eq_true, if_false, startLocal, if_neg (Nat.not_lt.2 hdata), if_neg hstored]

/-- An entry stored in a SINK that it leaves below 2^32 bytes. -/
theorem writeLocal_stored {s : State} {e : Entry} {rest : List Entry} {sink : Bytes}
    (hsink : s.zip.sink ++ localHeader (storedAt s.zip.sink.length e) 0 ++ e.payload = sink)
    (hlen : sink.length ≤ 4294967295) : writeLocal 0 e.payload e rest s = .ok { s with
      zip := { s.zip with
        sink := sink, recs := s.zip.recs ++ [(storedAt s.zip.sink.length e, 0)], work := rest, packed := [] }
      tasks := .saveItem :: s.tasks } := by
  subst hsink
  refine if_neg ?_
  rw [List.length_append, List.length_append] at hlen
  show ¬ (4294967295 < e.payload.length ∨ 4294967295 < s.zip.sink.length ∨
    4294967295 < (s.zip.sink ++ localHeader (storedAt s.zip.sink.length e) 0 ++ e.payload).length)
  rw [List.length_append, List.length_append]
  omega

/-- The next copy is plain and its method is 0: it goes to SINK as it is (R541, R542). -/
theorem drive_saveStored (k : Nat) {sink out : Bytes} {e : Entry} {rest : List Entry} {recs : List (Entry × Nat)} {s : State}
    (hplain : e.pcomp = false) (hmethod : e.method = 0)
    (hout : sink ++ localHeader (storedAt sink.length e) 0 ++ e.payload = out) (hlen : out.length ≤ 4294967295) :
    drive (k + 1) (savingAt sink (e :: rest) recs s) =
      drive k (savingAt out rest (recs ++ [(storedAt sink.length e, 0)]) s) := by
  have hdata : e.payload.length ≤ out.length := by
    rw [← hout, List.length_append]
    exact Nat.le_add_left _ _
  exact drive_ok (t := .saveItem) rfl ((runSaveItem_stored rfl hplain hmethod (hdata.trans hlen)).trans
    (writeLocal_stored (s := { savingAt sink (e :: rest) recs s with tasks := [] }) hout hlen))

/-- The image of these records behind their entries in SINK (R540). -/
def image (sink : Bytes) (recs : List (Entry × Nat)) : Bytes :=
  sink ++ recs.flatMap centralRecord ++ endRecord recs.length (recs.flatMap centralRecord).length sink.length

theorem endSave_fits {s : State} (hlen : (image s.zip.sink s.zip.recs).length ≤ 4294967295) : endSave s = .ok { s with
    defl := { s.defl with phase := .idle }
    infl := { s.infl with phase := .idle }
    zip := { s.zip with
      entries := s.zip.recs.map Prod.fst, sink := image s.zip.sink s.zip.recs, saving := false, work := [], recs := [] }
    tasks := .push (image s.zip.sink s.zip.recs) :: .res [(0, toWord (image s.zip.sink s.zip.recs).length)] ::
      .sinkClear :: s.tasks } := if_neg (Nat.not_lt.2 hlen)

/-- The last tasks of ZIP_SAVE, OUT having room for the image. -/
theorem drive_pushImage (k : Nat) {out : Bytes} {ws : List (Nat × Word)} {s : State}
    (hroom : outRoom s out.length = out.length) : drive (k + 3) { s with tasks := [.push out, .res ws, .sinkClear] } =
      complete (setRes ws { s with outq := s.outq ++ out, zip := { s.zip with sink := [] } }) := by
  calc drive (k + 3) { s with tasks := [.push out, .res ws, .sinkClear] }
    _ = drive (k + 2) { s with outq := s.outq ++ out, tasks := [.res ws, .sinkClear] } :=
      drive_ok (t := .push out) rfl (outPush_room (s := { s with tasks := [.res ws, .sinkClear] }) hroom)
    _ = drive (k + 1) (setRes ws { s with outq := s.outq ++ out, tasks := [.sinkClear] }) := drive_ok (t := .res ws) rfl rfl
    _ = drive k (setRes ws { s with outq := s.outq ++ out, zip := { s.zip with sink := [] }, tasks := [] }) :=
      drive_ok (t := .sinkClear) rfl rfl
    _ = _ := drive_nil rfl

/-- With no copy left the image is complete, and goes to OUT (R540, R545). -/
theorem drive_endSave (k : Nat) {sink out : Bytes} {recs : List (Entry × Nat)} {es : List Entry} {s : State}
    (hout : image sink recs = out) (hes : recs.map Prod.fst = es) (hlen : out.length ≤ 4294967295)
    (hroom : outRoom s out.length = out.length) : drive (k + 4) (savingAt sink [] recs s) = complete { s with
      outq := s.outq ++ out
      defl := { s.defl with phase := .idle }
      infl := { s.infl with phase := .idle }
      zip := { s.zip with entries := es, sink := [], saving := false, work := [], recs := [], packed := [] }
      res := { s.res with r0 := toWord out.length } } := by
  subst hout hes
  have hend := endSave_fits (s := { savingAt sink [] recs s with tasks := [] }) hlen
  rw [drive_ok (s := savingAt sink [] recs s) (t := .saveItem) rfl hend]
  exact drive_pushImage k (s := { s with
    defl := { s.defl with phase := .idle }
    infl := { s.infl with phase := .idle }
    zip := { s.zip with
      entries := recs.map Prod.fst, sink := image sink recs, saving := false, work := [], recs := [], packed := [] } }) hroom

theorem exec_zipSave_empty {s : State} (hopen : s.zip.isOpen = true) (hdefl : s.defl.phase.active = false)
    (hinfl : s.infl.phase.active = false) (hroom : outRoom s 22 = 22) (hnone : s.zip.entries = []) :
    exec .zipSave s = .next (complete { s with
      outq := s.outq ++ endRecord 0 0 0
      defl := { s.defl with phase := .idle }
      infl := { s.infl with phase := .idle }
      zip := { s.zip with sink := [], saving := false, work := [], recs := [], packed := [] }
      res := { s.res with r0 := 22 } }) := by
  rw [exec_zipSave hopen hdefl hinfl (by simp [hnone]), run_eq, hnone]
  exact congrArg _ (drive_endSave _ (recs := []) (s := s) rfl hnone.symm (by decide) hroom)

/-- The image of one stored entry (R542-R544). -/
theorem image_stored (e : Entry) : image (localHeader (storedAt 0 e) 0 ++ e.payload) [(storedAt 0 e, 0)] =
    localHeader (storedAt 0 e) 0 ++ e.payload ++ centralRecord (storedAt 0 e, 0) ++
      endRecord 1 (46 + e.name.length) (30 + e.name.length + e.payload.length) := by
  rw [image, List.flatMap_singleton, centralRecord_length, List.length_append, localHeader_length]
  rfl

/-- The header and the data to SINK, then the image to OUT. -/
theorem exec_zipSave_stored {s : State} {e : Entry} (hopen : s.zip.isOpen = true) (hdefl : s.defl.phase.active = false)
    (hinfl : s.infl.phase.active = false) (hone : s.zip.entries = [e]) (hplain : e.pcomp = false) (hmethod : e.method = 0)
    {img : Bytes} (himg : image (localHeader (storedAt 0 e) 0 ++ e.payload) [(storedAt 0 e, 0)] = img)
    (hlen : img.length ≤ 4294967295) (hroom : outRoom s img.length = img.length) :
    exec .zipSave s = .next (complete { s with
      outq := s.outq ++ img
      defl := { s.defl with phase := .idle }
      infl := { s.infl with phase := .idle }
      zip := { s.zip with entries := [storedAt 0 e], sink := [], saving := false, work := [], recs := [], packed := [] }
      res := { s.res with r0 := toWord img.length } }) := by
  have hstored : (localHeader (storedAt 0 e) 0 ++ e.payload).length ≤ img.length := by
    rw [← himg, image, List.append_assoc, List.length_append (bs := _ ++ _)]
    exact Nat.le_add_right _ _
  rw [exec_zipSave hopen hdefl hinfl (by simp [hone]), run_eq, hone,
    drive_saveStored _ hplain hmethod rfl (hstored.trans hlen)]
  exact congrArg _ (drive_endSave _ himg rfl hlen hroom)

/-- Settles O51: the parse and the save task by task. -/
theorem openingAndSavingAnArchive : Obligations.OpeningAndSavingAnArchive := by
  refine ⟨fun s hlevel hend hq => ?_, fun s => exec_zipOpen_hold, fun s => exec_zipSave_empty,
    fun s e hopen hdefl hinfl hone hplain hmethod hname hdata hroom => ?_⟩
  · rw [exec_zipOpen_ended hlevel hend, hq, run_eq]
    exact congrArg _ (drive_openEmpty _ s)
  · refine exec_zipSave_stored hopen hdefl hinfl hone hplain hmethod (image_stored e) ?_ hroom
    simp only [List.length_append, localHeader_length, centralRecord_length, endRecord_length]
    omega

end Sys2Proof.Machine
end

section
/-! PROOFS. ZIP_ITEM_DATA (48_zip_container.md R530, R531): plain data, and the decode of an entry that holds the empty compressed
stream, symbol by symbol from its payload. -/

namespace Sys2Proof.Machine

/-! ## Reads (44_huffman_decoder.md R295, 45_bitstream.md R345) -/

theorem readBits_refilled {n : Nat} {s : State} {b : BitSrc} (h : (inflSrc s).refill n = b) (hn : n ≤ b.n) :
    readBits n s = .val (b.low n) (inflPut s (b.drop n)) := by
  subst h
  exact if_neg (Nat.not_lt.2 hn)

theorem readSym_decoded {d : DTable} {s : State} {k : Nat} {b : BitSrc} (h : decodeSym d.len (inflSrc s) = (.sym k, b)) :
    readSym d s = .val k (inflPut s b) := by
  simp only [readSym, h]

/-- The end of a block has no extra bits (R459). -/
theorem fetchLitlen_eob {s t : State} (h : readSym s.d0 s = .val 256 t) : fetchLitlen s = .word .litlen 256 t := by
  rw [fetchLitlen, fetch_val h, if_neg (by decide)]

/-! ## The symbols of the empty raw stream in an entry (47_deflate_decompressor.md R455, R457, R459) -/

/-- ZIP_ITEM_DATA of entry i at a place of the decompressor, nothing decoded yet. -/
def itemAt (i : Nat) (b : Br) (d : Infl) (s : State) : State :=
  { s with br := b, infl := d, zip := { s.zip with dbuf := [] }, tasks := [.infl, .itemData i] }

/-- The decompressor at the start of an entry decode that pushes its bytes; m is OWIN. -/
def itemInfl (i : Nat) (m : List Host.Cell) (payload : Bytes) : Infl :=
  { Infl.reset with owin := m, nowrap := true, src := .entry i true payload, phase := .blockHeader }

/-- Behind the header of the final fixed block, whose byte the reader holds in part. -/
def itemInBlock (i : Nat) (m : List Host.Cell) : Infl :=
  { itemInfl i m [0x00] with phase := .huffmanDecode, final := true, btype := 1, consumed := 1 }

/-- At the end of the stream. -/
def itemDone (i : Nat) (m : List Host.Cell) : Infl :=
  { itemInfl i m [] with phase := .done, final := true, btype := 1, consumed := 2 }

/-- The symbols of the empty stream are read, and these tasks are left. -/
def itemEnded (i : Nat) (m : List Host.Cell) (ts : List Task) (s : State) : State :=
  { itemAt i ⟨0, 6⟩ (itemDone i m) (fixedTables s) with tasks := ts }

section EmptyStream

variable (i : Nat) (m : List Host.Cell) (s : State)

/-- BFINAL is the lowest bit of the first byte. -/
theorem readBits_itemFinal : readBits 1 (itemAt i ⟨0, 0⟩ (itemInfl i m [0x03, 0x00]) s) =
    .val 1 (itemAt i ⟨1, 7⟩ { itemInfl i m [0x00] with consumed := 1 } s) :=
  readBits_refilled (b := ⟨3, 8, [0x00], 1⟩) (show BitSrc.refill 1 ⟨0, 0, [0x03, 0x00], 0⟩ = _ by decide) (by decide)

/-- BTYPE is the next two. -/
theorem readBits_itemType :
    readBits 2 (itemAt i ⟨1, 7⟩ { itemInfl i m [0x00] with consumed := 1, final := true, cont := .btype } s) =
      .val 1 (itemAt i ⟨0, 5⟩ { itemInfl i m [0x00] with consumed := 1, final := true, cont := .btype } s) :=
  readBits_refilled (b := ⟨1, 7, [0x00], 0⟩) (show BitSrc.refill 2 ⟨1, 7, [0x00], 0⟩ = _ by decide) (by decide)

theorem runInfl_itemHeader : runInfl (itemAt i ⟨0, 0⟩ (itemInfl i m [0x03, 0x00]) s) =
    .ok (itemAt i ⟨0, 5⟩ (itemInBlock i m) (fixedTables s)) := by
  have hword : inflFetch (itemAt i ⟨0, 0⟩ (itemInfl i m [0x03, 0x00]) s) = .word .bhdr 3
      (itemAt i ⟨0, 5⟩ { itemInfl i m [0x00] with consumed := 1, final := true, cont := .btype } s) := by
    calc inflFetch (itemAt i ⟨0, 0⟩ (itemInfl i m [0x03, 0x00]) s)
      _ = (readBits 1 (itemAt i ⟨0, 0⟩ (itemInfl i m [0x03, 0x00]) s)).fetch fun v s =>
          fetchBtype { s with infl := { s.infl with final := v == 1, cont := .btype } } := rfl
      _ = fetchBtype (itemAt i ⟨1, 7⟩ { itemInfl i m [0x00] with consumed := 1, final := true, cont := .btype } s) :=
        fetch_val (readBits_itemFinal i m s) _
      _ = _ := fetch_val (readBits_itemType i m s) _
  exact runInfl_word (i := .blockFixed true) hword rfl

/-- The end of the block is seven bits 0, two of them in the last byte of the payload. -/
theorem readSym_itemEob : readSym (itemAt i ⟨0, 5⟩ (itemInBlock i m) (fixedTables s)).d0
    (itemAt i ⟨0, 5⟩ (itemInBlock i m) (fixedTables s)) =
    .val 256 (itemAt i ⟨0, 6⟩ { itemInBlock i m with consumed := 2, src := .entry i true [] } (fixedTables s)) :=
  readSym_decoded (d := ⟨fixedLL, true⟩) (b := ⟨0, 6, [], 1⟩) (decodeSym_fixed_eob [])

theorem runInfl_itemEob : runInfl (itemAt i ⟨0, 5⟩ (itemInBlock i m) (fixedTables s)) =
    .ok (itemAt i ⟨0, 6⟩ (itemDone i m) (fixedTables s)) := by
  have hword : inflFetch (itemAt i ⟨0, 5⟩ (itemInBlock i m) (fixedTables s)) = .word .litlen 256
      (itemAt i ⟨0, 6⟩ { itemInBlock i m with consumed := 2, src := .entry i true [] } (fixedTables s)) := by
    have hcursor : inflFetch (itemAt i ⟨0, 5⟩ (itemInBlock i m) (fixedTables s)) =
        fetchLitlen (itemAt i ⟨0, 5⟩ (itemInBlock i m) (fixedTables s)) := rfl
    exact hcursor.trans (fetchLitlen_eob (readSym_itemEob i m s))
  exact runInfl_word (i := .eob) hword rfl

/-- From the start of the payload to the end of its stream. -/
theorem drive_itemStream (k : Nat) : drive (k + 3) (itemAt i ⟨0, 0⟩ (itemInfl i m [0x03, 0x00]) s) =
    drive k (itemEnded i m [.itemData i] s) := by
  calc drive (k + 3) (itemAt i ⟨0, 0⟩ (itemInfl i m [0x03, 0x00]) s)
    _ = drive (k + 2) (itemAt i ⟨0, 5⟩ (itemInBlock i m) (fixedTables s)) := drive_infl rfl (runInfl_itemHeader i m s)
    _ = drive (k + 1) (itemAt i ⟨0, 6⟩ (itemDone i m) (fixedTables s)) := drive_infl rfl (runInfl_itemEob i m s)
    _ = _ := drive_infl rfl rfl

end EmptyStream

/-! ## The end of an entry decode (R531) -/

/-- ZIP_ITEM_DATA after the decode of the entry to DBUF. -/
theorem runItemData_entry {s : State} {i : Nat} {e : Entry} (he : s.zip.entries[i]? = some e) : runItemData i s =
    endItem i e s fun e c s => .ok (setRes [(0, toWord e.payload.length), (1, c)] (putEntry i e s)) := by
  simp only [runItemData, he]

theorem endItem_passed {s : State} {i : Nat} {e : Entry} {c : Word} (hc : crc 0 s.zip.dbuf = c)
    (h : ctrlCrcCheck s = false ∨ c = e.crc) (f : Entry → Word → State → Res) : endItem i e s f =
      f { e with payload := s.zip.dbuf, pcomp := false } c { s with
        infl := { s.infl with phase := .idle, cont := .none, src := .input }
        zip := { s.zip with dbuf := [] } } := by
  subst hc
  refine if_neg ?_
  obtain hoff | hcrc := h
  · simp [hoff]
  · rw [hcrc, bne_self_eq_false, Bool.and_false]
    decide

theorem endItem_mismatch {s : State} {i : Nat} {e : Entry} {c : Word} (hc : crc 0 s.zip.dbuf = c)
    (hcheck : ctrlCrcCheck s = true) (hcrc : c ≠ e.crc) (f : Entry → Word → State → Res) :
    endItem i e s f = failZip .crcMismatch i s := by
  subst hc
  refine if_pos ?_
  rw [hcheck, bne_iff_ne.2 hcrc]
  rfl

/-- The CRC-32 of no byte (42_checksums.md R230). -/
theorem crc_nil : crc 0 [] = 0 := rfl

section Ended

variable {i : Nat} {s : State} {e : Entry} (he : s.zip.entries[i]? = some e) (k : Nat) (m : List Host.Cell)

include he

/-- The entry then holds what was decoded, no byte. -/
theorem drive_itemPassed (hcrc : ctrlCrcCheck s = false ∨ e.crc = 0) :
    drive (k + 1) (itemEnded i m [.itemData i] s) = complete { fixedTables s with
      br := ⟨0, 6⟩
      infl := { itemDone i m with phase := .idle, src := .input }
      zip := { s.zip with entries := setAt s.zip.entries i { e with payload := [], pcomp := false }, dbuf := [] }
      res := { s.res with r0 := 0, r1 := 0 } } := by
  have hend := (runItemData_entry (s := itemEnded i m [] s) he).trans
    (endItem_passed (s := itemEnded i m [] s) crc_nil (hcrc.imp_right Eq.symm) _)
  rw [drive_ok (s := itemEnded i m [.itemData i] s) (t := .itemData i) rfl hend, drive_nil rfl]
  rfl

theorem drive_itemMismatch (hcheck : ctrlCrcCheck s = true) (hcrc : e.crc ≠ 0) :
    drive (k + 1) (itemEnded i m [.itemData i] s) =
      raiseErr .crcMismatch (toWord i) (zipIdle (itemEnded i m [] s)) := by
  have hend := (runItemData_entry (s := itemEnded i m [] s) he).trans
    (endItem_mismatch (s := itemEnded i m [] s) crc_nil hcheck hcrc.symm _)
  exact drive_raise (t := .itemData i) rfl hend

end Ended

/-! ## ZIP_ITEM_DATA (R530) -/

section ItemData

variable {s : State} {e : Entry} (ho : s.zip.isOpen = true) (hinfl : s.infl.phase.active = false)
  (he : s.zip.entries[s.lat.r0.toNat]? = some e)

include ho hinfl he

theorem exec_zipItemData : exec .zipItemData s = launch (fun s =>
    if e.pcomp then
      .ok { startItem (argNat s 0) true e s with tasks := [.infl, .itemData (argNat s 0)] }
    else .ok { s with tasks := [.push e.payload, .res [(0, toWord e.payload.length), (1, crc 0 e.payload)]] }) s := by
  show execZipItemData s = _
  rw [execZipItemData, launch, inflFree_ok (s := begun s) hinfl, opened_item ho he]
  rfl

theorem exec_zipItemData_plain (hplain : e.pcomp = false) : exec .zipItemData s = .next (run { s with
    tasks := [.push e.payload, .res [(0, toWord e.payload.length), (1, crc 0 e.payload)]] }) := by
  rw [exec_zipItemData ho hinfl he]
  exact launch_ok (if_neg (by simp [hplain]))

theorem exec_zipItemData_packed (hpacked : e.pcomp = true) : exec .zipItemData s =
    .next (run (itemAt s.lat.r0.toNat ⟨0, 0⟩ (itemInfl s.lat.r0.toNat s.infl.owin e.payload) s)) := by
  rw [exec_zipItemData ho hinfl he]
  exact launch_ok (if_pos hpacked)

/-- The empty stream is read, and the end of the decode is next. -/
theorem exec_zipItemData_empty (hpacked : e.pcomp = true) (hpayload : e.payload = [0x03, 0x00]) : ∃ k,
    exec .zipItemData s =
      .next (drive (k + 1) (itemEnded s.lat.r0.toNat s.infl.owin [.itemData s.lat.r0.toNat] s)) := by
  rw [exec_zipItemData_packed ho hinfl he hpacked, hpayload]
  exact ⟨_, congrArg _ ((run_eq _).trans (drive_itemStream _ _ _ (budget _ - 100 + 97)))⟩

end ItemData

/-- Settles O50: the push of plain data, and the empty stream symbol by symbol to the check of its CRC. -/
theorem readingAnEntrysData : Obligations.ReadingAnEntrysData := by
  refine fun s e ho hinfl he => ⟨fun hplain hroom => ?_, fun hpacked hpayload hcrc => ?_,
    fun hpacked hpayload hcheck hcrc => ?_⟩
  · rw [exec_zipItemData_plain ho hinfl he hplain, run_push_room hroom]
    rfl
  · obtain ⟨k, hexec⟩ := exec_zipItemData_empty ho hinfl he hpacked hpayload
    exact ⟨_, _, rfl, hexec.trans (congrArg _ (drive_itemPassed he k _ hcrc))⟩
  · obtain ⟨k, hexec⟩ := exec_zipItemData_empty ho hinfl he hpacked hpayload
    have hindex : toWord s.lat.r0.toNat = s.lat.r0 := by rw [toWord, BitVec.ofNat_toNat, BitVec.setWidth_eq]
    refine ⟨⟨0, 6⟩, { itemDone s.lat.r0.toNat s.infl.owin with phase := .idle }, rfl, ?_⟩
    rw [hexec, drive_itemMismatch he k _ hcheck hcrc, hindex]
    rfl

end Sys2Proof.Machine
end
